-- ==== Sys2Proof/Word.lean ====
section
/-!
DEFINITION. The two word types of the block (R7): a byte is 8 bits, a word is 16 bits, and a
word is put together from its high and low byte (R88).
-/

namespace Sys2Proof

/-- A byte of R7. -/
abbrev Byte := BitVec 8

/-- A word of R7. -/
abbrev Word := BitVec 16

/-- `cat(hi, lo)`, that is `hi * 256 + lo` (R88, R131). -/
def catBytes (hi lo : Byte) : Word := hi ++ lo

/-- `w[7:0]`, the first byte received of a two-byte read (R59). -/
def loByte (w : Word) : Byte := w.extractLsb' 0 8

/-- `w[15:8]`, the second byte received (R59). -/
def hiByte (w : Word) : Byte := w.extractLsb' 8 8

end Sys2Proof
end

