-- ==== Sys2Proof/Syntax.lean ====
section
/-!
DEFINITION. The instructions: one constructor for each row of spec/opcode_table.json (R95, R98), and
the small closed types their operands need.
-/

namespace Sys2Proof

/-- The kinds of row opcode_table.json has (R98). `op` holds the fifteen operations of Table 30-5,
which share one list of ordinals (formats FUNC and UOP of the table); the next seven are the data
formats of R80; then command codes, page bytes and microprogram rows. -/
inductive Format where
  | op | lin11 | vmode | vout16 | pagebuf | pecmsg | status16 | f64 | cmd8 | page8 | urom
  deriving DecidableEq, Repr, Inhabited

/-- The two widths SIGN.REC is used with (R130). -/
inductive SignWidth where
  | five | eleven
  deriving DecidableEq, Repr, Inhabited

/-- The width as a number. -/
def SignWidth.bits : SignWidth → Nat
  | .five => 5
  | .eleven => 11

/-- The three failure kinds (R220). -/
inductive FailKind where
  | transportOpen | transportIO | decodeFailure
  deriving DecidableEq, Repr, Inhabited

/-- An exact dyadic rational `m * 2^e`, written `dy(m, e)` (R9). -/
structure Dy where
  m : Int
  e : Int
  deriving DecidableEq, Repr, Inhabited

/-- One constructor for each row of spec/opcode_table.json. -/
inductive Instr where
  -- function-unit operations (R95 rows 1 to 8)
  | pecStep (prev nxt : Byte)
  | pecChain (bytes : List Byte)
  | pecCheck (bytes : List Byte) (pec : Byte)
  | signRec (w : SignWidth) (raw : BitVec 11)
  | lin11Dec (hi lo : Byte)
  | voutDec (mode hi lo : Byte)
  | f64Mul (a b : Dy)
  | pageBuild (addr : BitVec 7) (cmd page : Byte)
  -- sequencer micro-operations (R95 rows 9 to 15)
  | seqStart (devAddr : BitVec 7) (busIndex : Nat)
  | openBus
  | rd (cmd : Byte) (len : BitVec 2) (dst : Fin 17)
  | wrPage (rail : Fin 5)
  | closeBus
  | seqDone
  | seqAbort (kind : FailKind) (step : Fin 24) (rw : Bool)
  -- data formats (R81 to R87)
  | fmtLin11 (e : BitVec 5) (m : BitVec 11)
  | fmtVmode (x : BitVec 3) (e : BitVec 5)
  | fmtVout16 (m : Word)
  | fmtPagebuf (c p : Byte)
  | fmtPecmsg (a : BitVec 7) (k p : Byte)
  | fmtStatus16 (w : Word)
  | fmtF64 (sign : BitVec 1) (e : BitVec 11) (f : BitVec 52)
  -- command codes (R90)
  | cmdStatusWord | cmdReadVin | cmdReadFanSpeed1 | cmdReadTemperature1 | cmdReadTemperature2
  | cmdReadIout | cmdReadIin | cmdReadPout | cmdReadPin | cmdVoutMode | cmdReadVout | cmdPage
  -- page bytes (R91)
  | page12V1 | page12V2 | page12V3 | page5V | page3V3
  -- microprogram rows (R171)
  | urom00 | urom01 | urom02 | urom03 | urom04 | urom05 | urom06 | urom07
  | urom08 | urom09 | urom10 | urom11 | urom12 | urom13 | urom14 | urom15
  | urom16 | urom17 | urom18 | urom19 | urom20 | urom21 | urom22 | urom23
  deriving DecidableEq, Repr, Inhabited

end Sys2Proof
end

