-- ==== Sys2Proof/Machine/Ports.lean ====
section
/-!
DEFINITION. The records on the block's ports: the request (R51), the response (R56), and what the
environment presents to the block between two of the block's transitions.
-/

namespace Sys2Proof.Machine

/-- `req_kind` (R51): the four transport calls. -/
inductive ReqKind where
  | openReq | readReq | writeReq | closeReq
  deriving DecidableEq, Repr, Inhabited

/-- The number R51 gives each kind. -/
def ReqKind.code : ReqKind → BitVec 2
  | .openReq => 0
  | .readReq => 1
  | .writeReq => 2
  | .closeReq => 3

/-- The request record (R51). A field that has no meaning for a kind is zero. -/
structure Request where
  kind     : ReqKind
  busIndex : Nat
  addr     : BitVec 7
  cmd      : Byte
  len      : BitVec 2
  wdata    : Word
  deriving DecidableEq, Repr, Inhabited

/-- The response record (R56): `rsp_ok`, `rsp_len`, `rsp_data` with `d0` in the low byte. -/
structure Response where
  ok   : Bool
  len  : BitVec 2
  data : Word
  deriving DecidableEq, Repr, Inhabited

/-- What the environment presents in one turn (R229: the only input events are `start`, a response and
reset; R254: the function units take operands at any time). `operate f bytes` is an operation at the
function units' inputs, written as the encoding of Decode.lean. -/
inductive Input where
  | quiet
  | reset
  | start (devAddr : BitVec 7) (busIndex : Nat)
  | response (r : Response)
  | operate (f : Format) (bytes : List Byte)
  deriving DecidableEq, Repr, Inhabited

end Sys2Proof.Machine
end

