-- ==== Sys2Proof/Config.lean ====
section
/-!
DEFINITION. What an implementation fixes (Table 00-1 of R6) and the free values: the constants the
spec states have a body, the parameter the spec leaves open and the environment's moves have none.
-/

namespace Sys2Proof.Config

/-- `POLY` (Table 00-1): x^8+x^2+x+1 with its x^8 term left implicit (R112). -/
def poly : Byte := 0x07

/-- `INIT` (Table 00-1). -/
def pecInit : Byte := 0x00

/-- `PAGE_CMD` (Table 00-1). -/
def pageCmd : Byte := 0x00

/-- `READ_PEC_CHECK` (Table 00-1): the sequencer checks no PEC on the bytes it reads. -/
def readPecCheck : Bool := false

/-- The command codes `BB_TEMP_CMD` can be: one of the twelve of Table 30-3 (R5, R90) that is none of the
five other codes of Table 20-1, since R68 counts six codes there and calls it page-independent. Log 9. -/
inductive TempCmd where
  | readTemperature1 | readTemperature2 | readVin | readFanSpeed1 | readIin | readPout | readPin
  deriving DecidableEq, Repr, Inhabited

/-- The code Table 30-3 gives each (R90). -/
def TempCmd.code : TempCmd → Byte
  | .readTemperature1 => 0x8D
  | .readTemperature2 => 0x8E
  | .readVin => 0x88
  | .readFanSpeed1 => 0x90
  | .readIin => 0x89
  | .readPout => 0x96
  | .readPin => 0x97

/-- Which of them it is: the spec leaves it OPEN (Table 00-1, R171), so this has no body; 0x8D is only the
default its test vectors use. Log 9. -/
opaque tempCmd : TempCmd

/-- `BB_TEMP_CMD` (Table 00-1). -/
def bbTempCmd : Byte := tempCmd.code

/-- The environment's moves (R57, R172, R229): move number `tick` of the stream `stream`. A free value:
nothing constrains it. Log 1. -/
opaque draw (stream tick : Nat) : Machine.Input

end Sys2Proof.Config
end

