-- ==== Sys2Proof/Machine/Operands.lean ====
section
/-!
DEFINITION. The operand forms: fields of the data formats (R81 to R88), sign recovery (R130), the two
decoders (R133, R135), the exact product (R143) and the binary64 pattern (R141).
-/

namespace Sys2Proof.Machine

/-- `SIGN.REC w, raw` on an unsigned field (R130). -/
def signRec (w raw : Nat) : Int :=
  if raw.testBit (w - 1) then (raw : Int) - 2 ^ w else raw

/-- LIN11 `exp_raw = w[15:11]` (R132). -/
def lin11ExpRaw (w : Word) : BitVec 5 := w.extractLsb' 11 5

/-- LIN11 `mant_raw = w[10:0]` (R132). -/
def lin11MantRaw (w : Word) : BitVec 11 := w.extractLsb' 0 11

/-- VMODE `vexp_raw = m[4:0]`; bits 7:5 are ignored (R134). -/
def vmodeExpRaw (m : Byte) : BitVec 5 := m.extractLsb' 0 5

/-- The reading of a 5-bit exponent field. -/
def expOf (raw : BitVec 5) : Int := signRec 5 raw.toNat

/-- The reading of an 11-bit mantissa field. -/
def mantOf (raw : BitVec 11) : Int := signRec 11 raw.toNat

/-- `LIN11.DEC hi, lo` as the exact value `dy(M, E)` (R133). -/
def lin11Decode (hi lo : Byte) : Dy :=
  let w := catBytes hi lo
  ⟨mantOf (lin11MantRaw w), expOf (lin11ExpRaw w)⟩

/-- `VOUT.DEC mode, hi, lo` as the exact value `dy(U, E)` (R135). -/
def voutDecode (mode hi lo : Byte) : Dy :=
  ⟨((catBytes hi lo).toNat : Int), expOf (vmodeExpRaw mode)⟩

/-- `enc64` (R141): the binary64 pattern of `dy(a, x)`. -/
def enc64 (v : Dy) : BitVec 64 :=
  if v.m = 0 then 0
  else
    let sign : BitVec 1 := if v.m < 0 then 1 else 0
    let a := v.m.natAbs
    let k := a.log2
    let biased : BitVec 11 := BitVec.ofInt 11 (1023 + (k : Int) + v.e)
    let frac : BitVec 52 := BitVec.ofNat 52 ((a - 2 ^ k) * 2 ^ (52 - k))
    sign ++ biased ++ frac

/-- The exact product of `F64.MUL` (R143). -/
def dyMul (a b : Dy) : Dy := ⟨a.m * b.m, a.e + b.e⟩

/-- `enc64mul` (R143): the pattern of the product, minus zero where the voltage is +0 and the current
is negative. -/
def enc64mul (a b : Dy) : BitVec 64 :=
  if a.m * b.m ≠ 0 then enc64 (dyMul a b)
  else if a.m = 0 ∧ b.m < 0 then 0x8000000000000000
  else 0

/-- `dy(U, Ev)` is a VOUT.DEC result (R138). -/
def isVoutResult (v : Dy) : Bool :=
  decide (0 ≤ v.m ∧ v.m ≤ 65535 ∧ -16 ≤ v.e ∧ v.e ≤ 15)

/-- `dy(M, Ei)` is a LIN11.DEC result (R138). -/
def isLin11Result (v : Dy) : Bool :=
  decide (-1024 ≤ v.m ∧ v.m ≤ 1023 ∧ -16 ≤ v.e ∧ v.e ≤ 15)

/-- `encode11(m, e)` (R139). -/
def encode11 (m e : Int) : Word :=
  BitVec.ofInt 5 e ++ BitVec.ofInt 11 m

/-- The byte `addr << 1` with the write bit 0 (R85, R161). -/
def addrByte (addr : BitVec 7) : Byte := addr ++ (0 : BitVec 1)

/-- `req_wdata = cat(pec, pageByte)` of a PAGEBUF (R84). -/
def pagebufWord (page pec : Byte) : Word := catBytes pec page

/-- The byte sequence PECMSG (R85). -/
def pecMessage (addr : BitVec 7) (cmd page : Byte) : List Byte := [addrByte addr, cmd, page]

end Sys2Proof.Machine
end

