-- ==== Sys2Proof/Machine/Microprogram.lean ====
section
/-!
DEFINITION. The block's constant tables (R36): the rails (Table 30-4), the microprogram (Table 43-1)
and the command codes (Table 30-3).
-/

namespace Sys2Proof.Machine

/-- `PAGE_IDX[r]` (Table 30-4). -/
def pageIdx (r : Fin 5) : Byte :=
  match r with
  | 0 => 0x00
  | 1 => 0x01
  | 2 => 0x02
  | 3 => 0x10
  | 4 => 0x11

/-- `rail_label[r]` (Table 30-4, R30). -/
def railLabel (r : Fin 5) : String :=
  match r with
  | 0 => "12V1"
  | 1 => "12V2"
  | 2 => "12V3"
  | 3 => "5V"
  | 4 => "3.3V"

/-- The `uop` field of a microprogram row (R92). -/
inductive Uop where
  | openBus | rd | wrPage | closeBus
  deriving DecidableEq, Repr, Inhabited

/-- A microprogram row (R92). An unused field is zero. -/
structure Row where
  uop  : Uop
  cmd  : Byte
  len  : BitVec 2
  dst  : Fin 17
  rail : Fin 5
  deriving DecidableEq, Repr, Inhabited

/-- The row `OPEN`. -/
def Row.openRow : Row := ⟨.openBus, 0, 0, 0, 0⟩

/-- The row `RD cmd, len, dst`. -/
def Row.rdRow (cmd : Byte) (len : BitVec 2) (dst : Fin 17) : Row := ⟨.rd, cmd, len, dst, 0⟩

/-- The row `WR_PAGE rail`. -/
def Row.wrPageRow (rail : Fin 5) : Row := ⟨.wrPage, Config.pageCmd, 2, 0, rail⟩

/-- The row `CLOSE`. -/
def Row.closeRow : Row := ⟨.closeBus, 0, 0, 0, 0⟩

/-- Table 43-1, row by row (R171). -/
def microprogramRows : List Row :=
  [Row.openRow,
   Row.rdRow 0x79 2 0,
   Row.rdRow Config.bbTempCmd 2 1,
   Row.wrPageRow 0,
   Row.rdRow 0x20 1 2,
   Row.rdRow 0x8B 2 3,
   Row.rdRow 0x8C 2 4,
   Row.wrPageRow 1] ++
  [Row.rdRow 0x20 1 5,
   Row.rdRow 0x8B 2 6,
   Row.rdRow 0x8C 2 7,
   Row.wrPageRow 2,
   Row.rdRow 0x20 1 8,
   Row.rdRow 0x8B 2 9,
   Row.rdRow 0x8C 2 10,
   Row.wrPageRow 3] ++
  [Row.rdRow 0x20 1 11,
   Row.rdRow 0x8B 2 12,
   Row.rdRow 0x8C 2 13,
   Row.wrPageRow 4,
   Row.rdRow 0x20 1 14,
   Row.rdRow 0x8B 2 15,
   Row.rdRow 0x8C 2 16,
   Row.closeRow]

/-- Row `k` of Table 43-1. -/
def microprogram (k : Fin 24) : Row := microprogramRows.getD k.val Row.openRow

/-- Table 10-1, column "written by step": the one step whose completion writes `C[i]` (R21, R24). -/
def captureStep (i : Fin 17) : Fin 24 :=
  [1, 2, 4, 5, 6, 8, 9, 10, 12, 13, 14, 16, 17, 18, 20, 21, 22].getD i.val 0

/-- Table 10-1, column "width" in bits: the five `VMODE_r` are 8 wide, the others 16. -/
def captureWidth (i : Fin 17) : Nat :=
  if i = 2 ∨ i = 5 ∨ i = 8 ∨ i = 11 ∨ i = 14 then 8 else 16

/-- Table 10-1, column "command code read". -/
def captureCmd (i : Fin 17) : Byte := (microprogram (captureStep i)).cmd

/-- Table 10-1, column "bytes read". -/
def captureLen (i : Fin 17) : BitVec 2 := (microprogram (captureStep i)).len

/-- The index of `VMODE_r`, `2+3r` (R21). -/
def vmodeReg (r : Fin 5) : Fin 17 := ⟨2 + 3 * r.val, by omega⟩

/-- The index of `VOUT_r`, `3+3r` (R21). -/
def voutReg (r : Fin 5) : Fin 17 := ⟨3 + 3 * r.val, by omega⟩

/-- The index of `IOUT_r`, `4+3r` (R21). -/
def ioutReg (r : Fin 5) : Fin 17 := ⟨4 + 3 * r.val, by omega⟩

/-- The step `3+4r` that writes the page of rail `r` (R171). -/
def wrPageStep (r : Fin 5) : Fin 24 := ⟨3 + 4 * r.val, by omega⟩

/-- How a command code stands to the page register (R68). -/
inductive Paging where
  | selector | paged | pageIndependent | notStated
  deriving DecidableEq, Repr, Inhabited

/-- R68: 0x20, 0x8B and 0x8C are paged, 0x79 and `BB_TEMP_CMD` page-independent, 0x00 the selector;
of the other codes the spec says nothing. -/
def paging (code : Byte) : Paging :=
  if code = 0x00 then .selector
  else if code = 0x20 ∨ code = 0x8B ∨ code = 0x8C then .paged
  else if code = 0x79 ∨ code = Config.bbTempCmd then .pageIndependent
  else .notStated

/-- One row of Table 30-3 (R90). `form` is `none` where the spec says the source names no format. -/
structure CommandInfo where
  code    : Byte
  bytes   : Nat
  form    : Option Format
  paging  : Paging
  emitted : List (Fin 24)
  deriving DecidableEq, Repr, Inhabited

/-- The steps of the microprogram that put `code` in `req_cmd` (Table 30-3, last column). -/
def emittedAt (code : Byte) : List (Fin 24) :=
  (List.finRange 24).filter fun k =>
    match (microprogram k).uop with
    | .rd | .wrPage => decide ((microprogram k).cmd = code)
    | .openBus | .closeBus => false

/-- A row of Table 30-3 from its code, its data size and its format. -/
def commandInfo (code : Byte) (bytes : Nat) (form : Option Format) : CommandInfo :=
  ⟨code, bytes, form, paging code, emittedAt code⟩

/-- One row of Table 30-4 (R91). -/
structure PageInfo where
  rail  : Fin 5
  label : String
  byte  : Byte
  step  : Fin 24
  deriving DecidableEq, Repr, Inhabited

/-- The row of Table 30-4 for rail `r`. -/
def pageInfo (r : Fin 5) : PageInfo := ⟨r, railLabel r, pageIdx r, wrPageStep r⟩

end Sys2Proof.Machine
end

