-- ==== Sys2Proof/WellFormed.lean ====
section
/-!
DEFINITION. Which operands an instruction may have. Most operand types hold their own bound; the
checks here are the ones that relate fields.
-/

namespace Sys2Proof

open Machine

/-- Table 60-1: a TransportOpenFailure is raised at step 0; a failed read or a wrong length at an RD
step, with `rw = 0`; a failed write at a WR_PAGE step, with `rw = 1`. -/
def abortFits (kind : FailKind) (k : Fin 24) (rw : Bool) : Bool :=
  match kind with
  | .transportOpen => decide ((microprogram k).uop = .openBus) && !rw
  | .transportIO =>
    (decide ((microprogram k).uop = .rd) && !rw) || (decide ((microprogram k).uop = .wrPage) && rw)
  | .decodeFailure => decide ((microprogram k).uop = .rd) && !rw

/-- The checks: SIGN.REC's field fits its width (R130); F64.MUL's operands are decoder results (R143);
RD's command and length are the ones Table 10-1 gives its register (R21, R61); SEQ.ABORT is a row of
Table 60-1. -/
def Instr.wf : Instr → Bool
  | .signRec w raw => decide (raw.toNat < 2 ^ w.bits)
  | .f64Mul a b => isVoutResult a && isLin11Result b
  | .rd cmd len dst => decide (len = captureLen dst) && decide (cmd = captureCmd dst)
  | .seqAbort kind k rw => abortFits kind k rw
  | .pecStep _ _ | .pecChain _ | .pecCheck _ _ | .lin11Dec _ _ | .voutDec _ _ _
  | .pageBuild _ _ _ => true
  | .seqStart _ _ | .openBus | .wrPage _ | .closeBus | .seqDone => true
  | .fmtLin11 _ _ | .fmtVmode _ _ | .fmtVout16 _ | .fmtPagebuf _ _ | .fmtPecmsg _ _ _
  | .fmtStatus16 _ | .fmtF64 _ _ _ => true
  | .cmdStatusWord | .cmdReadVin | .cmdReadFanSpeed1 | .cmdReadTemperature1
  | .cmdReadTemperature2 | .cmdReadIout | .cmdReadIin | .cmdReadPout | .cmdReadPin
  | .cmdVoutMode | .cmdReadVout | .cmdPage => true
  | .page12V1 | .page12V2 | .page12V3 | .page5V | .page3V3 => true
  | .urom00 | .urom01 | .urom02 | .urom03 | .urom04 | .urom05 | .urom06 | .urom07
  | .urom08 | .urom09 | .urom10 | .urom11 | .urom12 | .urom13 | .urom14 | .urom15
  | .urom16 | .urom17 | .urom18 | .urom19 | .urom20 | .urom21 | .urom22 | .urom23 => true

/-- An instruction whose operands the spec allows. -/
abbrev Instr.WellFormed (i : Instr) : Prop := i.wf = true

end Sys2Proof
end

