-- ==== Sys2Proof/Decode.lean ====
section
/-!
DEFINITION. The decoder and the encoder.

The data formats are decoded as R81 to R88 lay their bits out. Operations, command codes, page bytes
and microprogram rows begin with the byte opcode_table.json gives them. The block itself decodes no
operation from bits (R97), so which table a word belongs to is not in its bits: it is the `Format`
beside them, and the layout of an operation's operand bytes is the model's own (DESIGN CHOICE, log 4
and 5).
-/

namespace Sys2Proof

open Machine

/-- Why the decoder refuses some bytes. -/
inductive Reject where
  /-- The bytes end before the operands do. -/
  | truncated
  /-- No operation has this ordinal (Table 30-5). -/
  | noOperation
  /-- A device address above 127 (R161, U16). -/
  | addressTooWide
  /-- No such width, or a field too wide for it (R130). -/
  | noSignField
  /-- No failure kind, step and direction of Table 60-1. -/
  | noFailure
  /-- No capture register has this index (Table 10-1). -/
  | noRegister
  /-- No rail has this index (Table 30-4). -/
  | noRail
  /-- A byte sequence is neither continued nor ended. -/
  | badSequence
  /-- Bit 0 of a PECMSG's first byte is not the write bit 0 (R85). -/
  | writeBitSet
  /-- No command code of Table 30-3. -/
  | noCommand
  /-- No page byte of Table 30-4. -/
  | noPage
  /-- No row of the microprogram (R93(g)). -/
  | noStep
  deriving DecidableEq, Repr, Inhabited

/-- What the decoder answers: an instruction and the bytes after it, or a refusal. -/
inductive Decoded where
  | ok (i : Instr) (rest : List Byte)
  | bad (r : Reject)
  deriving DecidableEq, Repr

/-- A byte sequence as operand: each byte after a 0x01, the end marked by 0x00 (log 5). -/
inductive Sequence where
  | ok (bytes rest : List Byte)
  | bad (r : Reject)
  deriving DecidableEq, Repr

/-- Puts one more byte before a sequence. -/
def Sequence.cons (b : Byte) : Sequence → Sequence
  | .ok bytes rest => .ok (b :: bytes) rest
  | .bad r => .bad r

/-- Reads a byte sequence. -/
def takeSequence : List Byte → Sequence
  | [] => .bad .truncated
  | [c] => if c = 0x00 then .ok [] [] else .bad .truncated
  | c :: b :: rest =>
    if c = 0x00 then .ok [] (b :: rest)
    else if c = 0x01 then (takeSequence rest).cons b
    else .bad .badSequence

/-- Writes a byte sequence. -/
def putSequence : List Byte → List Byte
  | [] => [0x00]
  | b :: bytes => 0x01 :: b :: putSequence bytes

/-- The value of base-256 digits, least significant first: how a `bus_index`, an opaque natural
number (R26), is written. -/
def natOfBytes : List Byte → Nat
  | [] => 0
  | b :: bytes => b.toNat + 256 * natOfBytes bytes

/-- The base-256 digits of a number, least significant first; `fuel` bounds how many. -/
def bytesOfNat : Nat → Nat → List Byte
  | 0, _ => []
  | fuel + 1, n => if n = 0 then [] else BitVec.ofNat 8 n :: bytesOfNat fuel (n / 256)

/-- The microprogram's rows as instructions, in the order of Table 43-1. -/
def uromInstrs : List Instr :=
  [.urom00, .urom01, .urom02, .urom03, .urom04, .urom05, .urom06, .urom07] ++
  [.urom08, .urom09, .urom10, .urom11, .urom12, .urom13, .urom14, .urom15] ++
  [.urom16, .urom17, .urom18, .urom19, .urom20, .urom21, .urom22, .urom23]

/-- The instruction that is row `k` of Table 43-1. -/
def uromInstr (k : Fin 24) : Instr := uromInstrs.getD k.val .urom00

/-- PEC.STEP: `prev`, `next`. -/
def decodePecStep : List Byte → Decoded
  | p :: n :: rest => .ok (.pecStep p n) rest
  | _ => .bad .truncated

/-- PEC.CHAIN: the sequence. -/
def decodePecChain (bs : List Byte) : Decoded :=
  match takeSequence bs with
  | .ok bytes rest => .ok (.pecChain bytes) rest
  | .bad r => .bad r

/-- PEC.CHECK: `pec`, then the sequence. Table 30-5 names the sequence first; that its byte `pec` lies before
the sequence here is DESIGN CHOICE, log 5. -/
def decodePecCheck : List Byte → Decoded
  | pec :: bs =>
    match takeSequence bs with
    | .ok bytes rest => .ok (.pecCheck bytes pec) rest
    | .bad r => .bad r
  | [] => .bad .truncated

/-- SIGN.REC: width selector (0 for 5, 1 for 11), then the field, low byte first. -/
def decodeSignRec : List Byte → Decoded
  | sel :: lo :: hi :: rest =>
    let raw := (catBytes hi lo).toNat
    if sel = 0x00 ∧ raw < 32 then .ok (.signRec .five (BitVec.ofNat 11 raw)) rest
    else if sel = 0x01 ∧ raw < 2048 then .ok (.signRec .eleven (BitVec.ofNat 11 raw)) rest
    else .bad .noSignField
  | _ => .bad .truncated

/-- LIN11.DEC: `hi`, `lo`. -/
def decodeLin11Dec : List Byte → Decoded
  | hi :: lo :: rest => .ok (.lin11Dec hi lo) rest
  | _ => .bad .truncated

/-- VOUT.DEC: `mode`, `hi`, `lo`. -/
def decodeVoutDec : List Byte → Decoded
  | mode :: hi :: lo :: rest => .ok (.voutDec mode hi lo) rest
  | _ => .bad .truncated

/-- F64.MUL: the VOUT.DEC operands of `a`, then the LIN11.DEC operands of `b`; the operands are
decoder results by construction (R143). -/
def decodeF64Mul : List Byte → Decoded
  | mode :: uhi :: ulo :: ihi :: ilo :: rest =>
    .ok (.f64Mul (voutDecode mode uhi ulo) (lin11Decode ihi ilo)) rest
  | _ => .bad .truncated

/-- PAGE.BUILD: `addr` (refused above 127, R161), `cmd`, `page`. -/
def decodePageBuild : List Byte → Decoded
  | a :: c :: p :: rest =>
    if a.toNat < 128 then .ok (.pageBuild (a.setWidth 7) c p) rest else .bad .addressTooWide
  | _ => .bad .truncated

/-- SEQ.START: `dev_addr` (refused above 127), then the digits of `bus_index`. -/
def decodeSeqStart : List Byte → Decoded
  | a :: bs =>
    if a.toNat < 128 then
      match takeSequence bs with
      | .ok bytes rest => .ok (.seqStart (a.setWidth 7) (natOfBytes bytes)) rest
      | .bad r => .bad r
    else .bad .addressTooWide
  | [] => .bad .truncated

/-- RD: `dst`; the register fixes the command and the length (Table 10-1). -/
def decodeRd : List Byte → Decoded
  | d :: rest =>
    if h : d.toNat < 17 then
      .ok (.rd (captureCmd ⟨d.toNat, h⟩) (captureLen ⟨d.toNat, h⟩) ⟨d.toNat, h⟩) rest
    else .bad .noRegister
  | [] => .bad .truncated

/-- WR_PAGE: `rail`. -/
def decodeWrPage : List Byte → Decoded
  | r :: rest => if h : r.toNat < 5 then .ok (.wrPage ⟨r.toNat, h⟩) rest else .bad .noRail
  | [] => .bad .truncated

/-- The failure kinds in the order of the taxonomy (R220), counted from 0. -/
def failKindOf (n : Nat) : Option FailKind :=
  match n with
  | 0 => some .transportOpen
  | 1 => some .transportIO
  | 2 => some .decodeFailure
  | _ => none

/-- SEQ.ABORT: kind, step, `rw`; only the rows of Table 60-1. -/
def decodeSeqAbort : List Byte → Decoded
  | c :: k :: rw :: rest =>
    match failKindOf c.toNat with
    | none => .bad .noFailure
    | some kind =>
      if h : k.toNat < 24 then
        if (rw = 0x00 ∨ rw = 0x01) ∧ abortFits kind ⟨k.toNat, h⟩ (decide (rw = 0x01)) then
          .ok (.seqAbort kind ⟨k.toNat, h⟩ (decide (rw = 0x01))) rest
        else .bad .noFailure
      else .bad .noStep
  | _ => .bad .truncated

/-- The fifteen operations by their ordinals in Table 30-5. -/
def decodeOp : List Byte → Decoded
  | [] => .bad .truncated
  | b :: bs =>
    match b.toNat with
    | 1 => decodePecStep bs
    | 2 => decodePecChain bs
    | 3 => decodePecCheck bs
    | 4 => decodeSignRec bs
    | 5 => decodeLin11Dec bs
    | 6 => decodeVoutDec bs
    | 7 => decodeF64Mul bs
    | 8 => decodePageBuild bs
    | 9 => decodeSeqStart bs
    | 10 => .ok .openBus bs
    | 11 => decodeRd bs
    | 12 => decodeWrPage bs
    | 13 => .ok .closeBus bs
    | 14 => .ok .seqDone bs
    | 15 => decodeSeqAbort bs
    | _ => .bad .noOperation

/-- A LIN11 word, first byte received first (R59, R81). -/
def decodeFmtLin11 : List Byte → Decoded
  | lo :: hi :: rest =>
    .ok (.fmtLin11 (lin11ExpRaw (catBytes hi lo)) (lin11MantRaw (catBytes hi lo))) rest
  | _ => .bad .truncated

/-- A VMODE byte (R82). -/
def decodeFmtVmode : List Byte → Decoded
  | m :: rest => .ok (.fmtVmode (m.extractLsb' 5 3) (vmodeExpRaw m)) rest
  | [] => .bad .truncated

/-- A VOUT16 word (R83). -/
def decodeFmtVout16 : List Byte → Decoded
  | lo :: hi :: rest => .ok (.fmtVout16 (catBytes hi lo)) rest
  | _ => .bad .truncated

/-- A PAGEBUF: byte 0 is the page, byte 1 the PEC (R84). -/
def decodeFmtPagebuf : List Byte → Decoded
  | p :: c :: rest => .ok (.fmtPagebuf c p) rest
  | _ => .bad .truncated

/-- A PECMSG: address byte, command, page byte (R85). -/
def decodeFmtPecmsg : List Byte → Decoded
  | a :: k :: p :: rest =>
    if a.getLsbD 0 then .bad .writeBitSet else .ok (.fmtPecmsg (a.extractLsb' 1 7) k p) rest
  | _ => .bad .truncated

/-- A STATUS16 word (R86). -/
def decodeFmtStatus16 : List Byte → Decoded
  | lo :: hi :: rest => .ok (.fmtStatus16 (catBytes hi lo)) rest
  | _ => .bad .truncated

/-- The 64 bits of eight bytes, least significant byte first. -/
def catBytes8 (b0 b1 b2 b3 b4 b5 b6 b7 : Byte) : BitVec 64 :=
  b7 ++ b6 ++ b5 ++ b4 ++ b3 ++ b2 ++ b1 ++ b0

/-- An F64 pattern (R87), least significant byte first (DESIGN CHOICE, log 5). -/
def decodeFmtF64 : List Byte → Decoded
  | b0 :: b1 :: b2 :: b3 :: b4 :: b5 :: b6 :: b7 :: rest =>
    let v := catBytes8 b0 b1 b2 b3 b4 b5 b6 b7
    .ok (.fmtF64 (v.extractLsb' 63 1) (v.extractLsb' 52 11) (v.extractLsb' 0 52)) rest
  | _ => .bad .truncated

/-- The command codes of Table 30-3. -/
def commandInstr (code : Nat) : Option Instr :=
  match code with
  | 0x79 => some .cmdStatusWord
  | 0x88 => some .cmdReadVin
  | 0x90 => some .cmdReadFanSpeed1
  | 0x8D => some .cmdReadTemperature1
  | 0x8E => some .cmdReadTemperature2
  | 0x8C => some .cmdReadIout
  | 0x89 => some .cmdReadIin
  | 0x96 => some .cmdReadPout
  | 0x97 => some .cmdReadPin
  | 0x20 => some .cmdVoutMode
  | 0x8B => some .cmdReadVout
  | 0x00 => some .cmdPage
  | _ => none

/-- The page bytes of Table 30-4. -/
def pageInstr (page : Nat) : Option Instr :=
  match page with
  | 0x00 => some .page12V1
  | 0x01 => some .page12V2
  | 0x02 => some .page12V3
  | 0x10 => some .page5V
  | 0x11 => some .page3V3
  | _ => none

/-- A command code. -/
def decodeCmd8 : List Byte → Decoded
  | c :: rest =>
    match commandInstr c.toNat with
    | some i => .ok i rest
    | none => .bad .noCommand
  | [] => .bad .truncated

/-- A page byte. -/
def decodePage8 : List Byte → Decoded
  | p :: rest =>
    match pageInstr p.toNat with
    | some i => .ok i rest
    | none => .bad .noPage
  | [] => .bad .truncated

/-- A microprogram row by its number in bits 4:0; the table's mask 0x1F leaves bits 7:5 out. -/
def decodeUrom : List Byte → Decoded
  | b :: rest =>
    if h : (b.extractLsb' 0 5).toNat < 24 then .ok (uromInstr ⟨(b.extractLsb' 0 5).toNat, h⟩) rest
    else .bad .noStep
  | [] => .bad .truncated

/-- The decoder: total on any bytes of any table. -/
def decode (f : Format) (bytes : List Byte) : Decoded :=
  match f with
  | .op => decodeOp bytes
  | .lin11 => decodeFmtLin11 bytes
  | .vmode => decodeFmtVmode bytes
  | .vout16 => decodeFmtVout16 bytes
  | .pagebuf => decodeFmtPagebuf bytes
  | .pecmsg => decodeFmtPecmsg bytes
  | .status16 => decodeFmtStatus16 bytes
  | .f64 => decodeFmtF64 bytes
  | .cmd8 => decodeCmd8 bytes
  | .page8 => decodePage8 bytes
  | .urom => decodeUrom bytes

/-- The table an instruction's row belongs to. -/
def formatOf : Instr → Format
  | .pecStep _ _ | .pecChain _ | .pecCheck _ _ | .signRec _ _ | .lin11Dec _ _ | .voutDec _ _ _
  | .f64Mul _ _ | .pageBuild _ _ _ | .seqStart _ _ | .openBus | .rd _ _ _ | .wrPage _ | .closeBus
  | .seqDone | .seqAbort _ _ _ => .op
  | .fmtLin11 _ _ => .lin11
  | .fmtVmode _ _ => .vmode
  | .fmtVout16 _ => .vout16
  | .fmtPagebuf _ _ => .pagebuf
  | .fmtPecmsg _ _ _ => .pecmsg
  | .fmtStatus16 _ => .status16
  | .fmtF64 _ _ _ => .f64
  | .cmdStatusWord | .cmdReadVin | .cmdReadFanSpeed1 | .cmdReadTemperature1
  | .cmdReadTemperature2 | .cmdReadIout | .cmdReadIin | .cmdReadPout | .cmdReadPin
  | .cmdVoutMode | .cmdReadVout | .cmdPage => .cmd8
  | .page12V1 | .page12V2 | .page12V3 | .page5V | .page3V3 => .page8
  | .urom00 | .urom01 | .urom02 | .urom03 | .urom04 | .urom05 | .urom06 | .urom07
  | .urom08 | .urom09 | .urom10 | .urom11 | .urom12 | .urom13 | .urom14 | .urom15
  | .urom16 | .urom17 | .urom18 | .urom19 | .urom20 | .urom21 | .urom22 | .urom23 => .urom

/-- A failure kind's number, counted from 0. -/
def failKindByte : FailKind → Byte
  | .transportOpen => 0
  | .transportIO => 1
  | .decodeFailure => 2

/-- The operand bytes of `dy(U, Ev)`: the VOUT_MODE byte and the word, as VOUT.DEC takes them. -/
def voutOperand (v : Dy) : List Byte :=
  let w := BitVec.ofInt 16 v.m
  [(BitVec.ofInt 5 v.e).setWidth 8, hiByte w, loByte w]

/-- The operand bytes of `dy(M, Ei)`: `encode11(m, e)` (R139). -/
def lin11Operand (v : Dy) : List Byte :=
  let w := encode11 v.m v.e
  [hiByte w, loByte w]

/-- The eight bytes of a 64-bit pattern, least significant first. -/
def bytes8 (v : BitVec 64) : List Byte :=
  [v.extractLsb' 0 8, v.extractLsb' 8 8, v.extractLsb' 16 8, v.extractLsb' 24 8,
   v.extractLsb' 32 8, v.extractLsb' 40 8, v.extractLsb' 48 8, v.extractLsb' 56 8]

/-- The encoder: the bytes of a well-formed instruction, in the table `formatOf` names. -/
def encode : Instr → List Byte
  | .pecStep p n => [0x01, p, n]
  | .pecChain bs => 0x02 :: putSequence bs
  | .pecCheck bs pec => 0x03 :: pec :: putSequence bs
  | .signRec w raw =>
    [0x04, (match w with | .five => 0x00 | .eleven => 0x01), raw.setWidth 8,
     (raw.extractLsb' 8 3).setWidth 8]
  | .lin11Dec hi lo => [0x05, hi, lo]
  | .voutDec mode hi lo => [0x06, mode, hi, lo]
  | .f64Mul a b => 0x07 :: (voutOperand a ++ lin11Operand b)
  | .pageBuild a c p => [0x08, a.setWidth 8, c, p]
  | .seqStart a n => 0x09 :: a.setWidth 8 :: putSequence (bytesOfNat n n)
  | .openBus => [0x0A]
  | .rd _ _ dst => [0x0B, BitVec.ofNat 8 dst.val]
  | .wrPage r => [0x0C, BitVec.ofNat 8 r.val]
  | .closeBus => [0x0D]
  | .seqDone => [0x0E]
  | .seqAbort kind k rw =>
    [0x0F, failKindByte kind, BitVec.ofNat 8 k.val, (if rw then 0x01 else 0x00)]
  | .fmtLin11 e m => [loByte (e ++ m), hiByte (e ++ m)]
  | .fmtVmode x e => [x ++ e]
  | .fmtVout16 m => [loByte m, hiByte m]
  | .fmtPagebuf c p => [p, c]
  | .fmtPecmsg a k p => pecMessage a k p
  | .fmtStatus16 w => [loByte w, hiByte w]
  | .fmtF64 s e f => bytes8 (s ++ e ++ f)
  | .cmdStatusWord => [0x79]
  | .cmdReadVin => [0x88]
  | .cmdReadFanSpeed1 => [0x90]
  | .cmdReadTemperature1 => [0x8D]
  | .cmdReadTemperature2 => [0x8E]
  | .cmdReadIout => [0x8C]
  | .cmdReadIin => [0x89]
  | .cmdReadPout => [0x96]
  | .cmdReadPin => [0x97]
  | .cmdVoutMode => [0x20]
  | .cmdReadVout => [0x8B]
  | .cmdPage => [0x00]
  | .page12V1 => [0x00]
  | .page12V2 => [0x01]
  | .page12V3 => [0x02]
  | .page5V => [0x10]
  | .page3V3 => [0x11]
  | .urom00 => [0x00]
  | .urom01 => [0x01]
  | .urom02 => [0x02]
  | .urom03 => [0x03]
  | .urom04 => [0x04]
  | .urom05 => [0x05]
  | .urom06 => [0x06]
  | .urom07 => [0x07]
  | .urom08 => [0x08]
  | .urom09 => [0x09]
  | .urom10 => [0x0A]
  | .urom11 => [0x0B]
  | .urom12 => [0x0C]
  | .urom13 => [0x0D]
  | .urom14 => [0x0E]
  | .urom15 => [0x0F]
  | .urom16 => [0x10]
  | .urom17 => [0x11]
  | .urom18 => [0x12]
  | .urom19 => [0x13]
  | .urom20 => [0x14]
  | .urom21 => [0x15]
  | .urom22 => [0x16]
  | .urom23 => [0x17]

/-- Which table an opcode-table word is read from, by its size and value. The tables of eight-bit
words overlap (PEC.STEP, PAGE.12V2 and UROM.01 are all 0x01) and the four unfixed sixteen-bit formats
are one another's words, so one reading is chosen: operations first, then microprogram rows, then
command codes, then a microprogram row by its five fixed bits; of the sixteen-bit formats LIN11
(DESIGN CHOICE, log 6). -/
def tableFormat (nbits w : Nat) : Option Format :=
  if nbits = 8 then
    if 1 ≤ w ∧ w ≤ 15 then some .op
    else if w ≤ 23 then some .urom
    else if (commandInstr w).isSome then some .cmd8
    else some .urom
  else if nbits = 5 then some .urom
  else if nbits = 16 then some .lin11
  else if nbits = 24 then some .pecmsg
  else if nbits = 64 then some .f64
  else none

/-- The bytes of a table word. A PECMSG is numbered with its first byte leftmost (R85), every other
format with its first byte in the low bits. -/
def tableBytes (f : Format) (w : Nat) : List Byte :=
  match f with
  | .pecmsg => [BitVec.ofNat 8 (w / 65536), BitVec.ofNat 8 (w / 256), BitVec.ofNat 8 w]
  | .lin11 | .vout16 | .pagebuf | .status16 => [BitVec.ofNat 8 w, BitVec.ofNat 8 (w / 256)]
  | .f64 => bytes8 (BitVec.ofNat 64 w)
  | .op | .vmode | .cmd8 | .page8 | .urom => [BitVec.ofNat 8 w]

/-- Operand bytes the table gives no bits for: zeros. -/
def zeroOperands : List Byte := List.replicate 8 0

/-- The instruction the decoder reads from a word of opcode_table.json. -/
def decodeTableWord (nbits w : Nat) : Option Instr :=
  match tableFormat nbits w with
  | none => none
  | some f =>
    match decode f (tableBytes f w ++ zeroOperands) with
    | .ok i _ => some i
    | .bad _ => none

end Sys2Proof
end

