-- ==== Sys2Proof/Machine/State.lean ====
section
/-!
DEFINITION. The state of one sequencer (R20), the results of the function units, what a step can stop
with, and the state after reset (R37).
-/

namespace Sys2Proof.Machine

/-- `seq_pc` (R25): `IDLE` or a step number 0..23. -/
inductive SeqPc where
  | idle
  | step (k : Fin 24)
  deriving DecidableEq, Repr, Inhabited

/-- A capture register with its valid bit (R21, R22). The five 8-bit registers hold their byte in the
low half (log 7). -/
structure Capture where
  bits  : Word
  valid : Bool
  deriving DecidableEq, Repr, Inhabited

/-- What the function units last drove onto their result wires (R95, column "result"; log 3), and what
a row of the data-format or constant tables gives (log 15). -/
inductive Result where
  | none
  /-- PEC.STEP and PEC.CHAIN: `crc`. -/
  | crc (c : Byte)
  /-- PEC.CHECK: `ok`. -/
  | ok (b : Bool)
  /-- SIGN.REC: a mathematical integer. -/
  | int (z : Int)
  /-- LIN11.DEC, VOUT.DEC and F64.MUL: the exact value and its binary64 pattern. -/
  | f64 (v : Dy) (bits : BitVec 64)
  /-- PAGE.BUILD and FMT.PAGEBUF: `[b0, b1]` and the same as `req_wdata`. -/
  | payload (b0 b1 : Byte) (wdata : Word)
  /-- FMT.LIN11: the readings of both fields. -/
  | lin11 (e m : Int)
  /-- FMT.VMODE: the reading of the exponent field. -/
  | vmode (e : Int)
  /-- FMT.VOUT16: the unsigned reading. -/
  | vout16 (u : Nat)
  /-- FMT.PECMSG: the three bytes, in the order they are folded. -/
  | message (bytes : List Byte)
  /-- FMT.STATUS16: the opaque word. -/
  | status (w : Word)
  /-- FMT.F64: sign, biased exponent, fraction. -/
  | f64Fields (sign : BitVec 1) (biased : BitVec 11) (frac : BitVec 52)
  /-- CMD rows: the row of Table 30-3. -/
  | command (info : CommandInfo)
  /-- PAGE rows: the row of Table 30-4. -/
  | page (info : PageInfo)
  deriving DecidableEq, Repr, Inhabited

/-- All the state of one sequencer instance (R20), its request port (R37), what is known of the device's
page (R33), and the model's own fields `input`, `result`, `stream` and `tick` (INVENTORY.md, State). -/
structure State where
  seqPc     : SeqPc
  waiting   : Bool
  captures  : Vector Capture 17
  devAddrQ  : BitVec 7
  busIndexQ : Nat
  snapValid : Bool
  fail      : Bool
  errCode   : BitVec 2
  errStep   : BitVec 5
  errRw     : Bool
  connOpen  : Bool
  reqPort   : Option Request
  devPage   : Option Byte
  input     : Option Input
  result    : Result
  stream    : Nat
  tick      : Nat
  deriving DecidableEq, Repr

/-- Why the machine can stop. -/
inductive Fault where
  /-- A micro-operation (OPEN, RD, WR_PAGE, CLOSE, SEQ.DONE, SEQ.ABORT or a microprogram row) is
  presented while `seq_pc` does not name its row: no transition of it is enabled (R72, R175). Raised by
  `State.runRow`, `State.runRowIf`, `execSeqDone` and `execSeqAbort`. Safe: the sequencer itself runs
  only the row `seq_pc` names (log 12). -/
  | notEnabled
  deriving DecidableEq, Repr

/-- Why the model gives an operation no meaning. -/
inductive Refusal where
  /-- An instruction that has no meaning yet. Raised by no arm of this model. Safe. -/
  | notModelled (mnemonic : String)
  /-- F64.MUL on an operand that is no decoder result: "its behaviour on any other operand ... is not
  defined" (R143, U15). Raised by `execF64Mul`; the decoder builds no such operand. Safe (log 22). -/
  | notDecoderResult
  /-- SIGN.REC on a field outside `0 <= raw < 2^w` (R130). Raised by `execSignRec`; the decoder builds
  no such operand. Safe (log 22). -/
  | rawTooWide
  /-- Bytes at the function units' inputs that encode no operation. Raised by `step`. Safe: the block
  decodes no operation from bits (R97), and the environment presents none such. -/
  | undecodable (r : Reject)
  deriving DecidableEq, Repr

/-- A capture register after reset: invalid, its bits DESIGN CHOICE zero (log 8). -/
def Capture.reset : Capture := ⟨0, false⟩

/-- The state after reset: Table 10-2 (R37). What the table calls unspecified (the capture registers'
bits, `dev_addr_q`, `bus_index_q`) is zero, DESIGN CHOICE, log 8. -/
def State.reset : State where
  seqPc     := .idle
  waiting   := false
  captures  := Vector.replicate 17 Capture.reset
  devAddrQ  := 0
  busIndexQ := 0
  snapValid := false
  fail      := false
  errCode   := 0
  errStep   := 0
  errRw     := false
  connOpen  := false
  reqPort   := none
  devPage   := none
  input     := none
  result    := .none
  stream    := 0
  tick      := 0

end Sys2Proof.Machine
end

