-- ==== Sys2Proof/Machine/Ops.lean ====
section
/-!
DEFINITION. The named operations over the state: capture registers, the request of a row, the issue
half and the response half of a step (R175), the abort (R181, R226), reset (R250), and the turns of the
environment. SEQ.ABORT is the block's taking of an exception; there is no return from one (R230): the
next SEQ.START is it.
-/

namespace Sys2Proof.Machine

/-! ## Result wires -/

/-- A function unit drives its result wires (R95); it has no state of its own (R20). -/
def State.setResult (s : State) (r : Result) : State := { s with result := r }

/-! ## Capture registers -/

/-- A value cut to the width of `C[i]` (Table 10-1). -/
def captureCut (i : Fin 17) (v : Word) : Word :=
  if captureWidth i = 8 then (loByte v).setWidth 16 else v

/-- `C[i] <- v`: stores `v` and sets `CV[i]` (R21). -/
def State.writeCapture (s : State) (i : Fin 17) (v : Word) : State :=
  { s with captures := s.captures.set i.val ⟨captureCut i v, true⟩ i.isLt }

/-- The valid bit `CV[i]`. -/
def State.captureValid (s : State) (i : Fin 17) : Bool := (s.captures[i.val]).valid

/-- Reading `C[i]`: no value while `CV[i] = 0` (R23). -/
def State.capture? (s : State) (i : Fin 17) : Option Word :=
  if s.captureValid i then some (s.captures[i.val]).bits else none

/-- Clears all 17 valid bits (R22). -/
def clearValid (cs : Vector Capture 17) : Vector Capture 17 :=
  Vector.ofFn fun i => { cs[i.val] with valid := false }

/-! ## Issue half -/

/-- The request a row presents (R51 to R55, Table 43-1). -/
def State.rowRequest (s : State) (r : Row) : Request :=
  match r.uop with
  | .openBus => ⟨.openReq, s.busIndexQ, s.devAddrQ, 0, 0, 0⟩
  | .rd => ⟨.readReq, 0, s.devAddrQ, r.cmd, r.len, 0⟩
  | .wrPage =>
    ⟨.writeReq, 0, s.devAddrQ, Config.pageCmd, 2,
      pagebufWord (pageIdx r.rail) (pagePec s.devAddrQ Config.pageCmd (pageIdx r.rail))⟩
  | .closeBus => ⟨.closeReq, 0, s.devAddrQ, 0, 0, 0⟩

/-- The issue half of a step: the request of the row is presented and `waiting <- 1` (R175). -/
def State.issue (s : State) (r : Row) : State :=
  { s with waiting := true, reqPort := some (s.rowRequest r) }

/-! ## Response half -/

/-- `waiting <- 0`: the outstanding request is answered (R175). -/
def State.taken (s : State) : State := { s with waiting := false, reqPort := none }

/-- The step after `k`; 23 is followed by IDLE (R25, R178). -/
def nextPc (k : Fin 24) : SeqPc :=
  if h : k.val + 1 < 24 then .step ⟨k.val + 1, h⟩ else .idle

/-- `pc <- pc'`. -/
def State.goto (s : State) (pc : SeqPc) : State := { s with seqPc := pc }

/-- `err_code` of a failure kind (R27). -/
def failCode : FailKind → BitVec 2
  | .transportOpen => 1
  | .transportIO => 2
  | .decodeFailure => 3

/-- Where an abort goes: IDLE from step 0, else the CLOSE of step 23 (R181). -/
def abortPc (k : Fin 24) : SeqPc := if k = 0 then .idle else .step 23

/-- `SEQ.ABORT kind, step, rw`, that is `raise` (R181, R226): what is saved, changed and where control
goes. -/
def State.seqAbort (s : State) (kind : FailKind) (k : Fin 24) (rw : Bool) : State :=
  { s with
    fail := true
    errCode := failCode kind
    errStep := BitVec.ofNat 5 k.val
    errRw := rw
    waiting := false
    reqPort := none
    seqPc := abortPc k }

/-- `SEQ.DONE` (R180). -/
def State.seqDone (s : State) : State := { s with snapValid := true }

/-- `conn_open <- b` (R32). -/
def State.setConn (s : State) (b : Bool) : State := { s with connOpen := b }

/-- What is known of the device's page (R33, R186, R227). -/
def State.setDevPage (s : State) (p : Option Byte) : State := { s with devPage := p }

/-- OPEN's response half at step `k` (R174). -/
def State.respondOpen (s : State) (k : Fin 24) (r : Response) : State :=
  if r.ok then (s.taken.setConn true).goto (nextPc k) else s.taken.seqAbort .transportOpen k false

/-- The value an RD stores: both bytes, or the single byte (R176). -/
def readValue (len : BitVec 2) (data : Word) : Word :=
  if len = 2 then catBytes (hiByte data) (loByte data) else (loByte data).setWidth 16

/-- RD's response half at step `k` (R176): `rsp_ok` is tested before the length (R228). -/
def State.respondRd (s : State) (k : Fin 24) (len : BitVec 2) (dst : Fin 17) (r : Response) : State :=
  if !r.ok then s.taken.seqAbort .transportIO k false
  else if r.len ≠ len then s.taken.seqAbort .decodeFailure k false
  else (s.taken.writeCapture dst (readValue len r.data)).goto (nextPc k)

/-- WR_PAGE's response half at step `k` (R177). A completed write leaves the device on the page written
(R33), whatever was dropped by a reset or failed before it (DESIGN CHOICE, log 24); after a failed one its page
is unknown (R227). -/
def State.respondWrPage (s : State) (k : Fin 24) (rail : Fin 5) (r : Response) : State :=
  if r.ok then (s.taken.setDevPage (some (pageIdx rail))).goto (nextPc k)
  else (s.taken.setDevPage none).seqAbort .transportIO k true

/-- CLOSE's response half (R179): the status of the response is ignored (R55). -/
def State.respondClose (s : State) : State :=
  let t := s.taken.setConn false
  (if t.fail then t else t.seqDone).goto .idle

/-- The response half of the row `r` at step `k`. -/
def State.respond (s : State) (k : Fin 24) (r : Row) (rsp : Response) : State :=
  match r.uop with
  | .openBus => s.respondOpen k rsp
  | .rd => s.respondRd k r.len r.dst rsp
  | .wrPage => s.respondWrPage k r.rail rsp
  | .closeBus => s.respondClose

/-- The response the transport presents in this turn to the outstanding request, if any. The record has no tag
(R56); one that comes late for a request a reset dropped is not taken (R251), and is here no response at all but
a quiet turn: DESIGN CHOICE, log 25. -/
def State.response? (s : State) : Option Response :=
  match s.input with
  | some (.response r) => some r
  | _ => none

/-- One transition of the row `r` at step `k` (R175): the issue half, or the response half, or, while
the transport has not answered, none (R262: the instance waits). While `waiting = 1` every response presented
is the outstanding request's: DESIGN CHOICE, log 25. -/
def State.transition (s : State) (k : Fin 24) (r : Row) : State :=
  if s.waiting then
    match s.response? with
    | some rsp => s.respond k r rsp
    | none => s
  else s.issue r

/-- Row `k` of the microprogram, enabled while `seq_pc = k` (R72, R175). -/
def State.runRow (s : State) (k : Fin 24) : Host.Outcome State Fault Refusal :=
  if s.seqPc = .step k then .next (s.transition k (microprogram k)) else .fault .notEnabled

/-- A micro-operation with its operands, enabled while it is the row `seq_pc` names (R95: executed only
by the sequencer, in the order of the microprogram). -/
def State.runRowIf (s : State) (r : Row) : Host.Outcome State Fault Refusal :=
  match s.seqPc with
  | .step k => if microprogram k = r then .next (s.transition k r) else .fault .notEnabled
  | .idle => .fault .notEnabled

/-! ## Start and reset -/

/-- `SEQ.START`'s effect (R173). The device's page is unknown again (R258, U21). -/
def State.seqStart (s : State) (devAddr : BitVec 7) (busIndex : Nat) : State :=
  { s with
    devAddrQ := devAddr
    busIndexQ := busIndex
    captures := clearValid s.captures
    snapValid := false
    fail := false
    errCode := 0
    errStep := 0
    errRw := false
    waiting := false
    devPage := none
    seqPc := .step 0 }

/-- What reset leaves known of the device's page (R252): it is not touched; but a page write that was
outstanding may or may not have reached the device (R251). If it does reach it, it does so before a page write
of a later poll is answered: DESIGN CHOICE, log 24. -/
def State.pageAfterReset (s : State) : Option Byte :=
  match s.reqPort with
  | some q => if q.kind = .writeReq then none else s.devPage
  | none => s.devPage

/-- The reset input (R250, R251): every piece of the block's state at its value in Table 10-2, from any
state. The device's page, the function units (R254) and the model's draws are not the block's. -/
def State.resetBlock (s : State) : State :=
  { State.reset with
    devPage := s.pageAfterReset
    result := s.result
    input := s.input
    stream := s.stream
    tick := s.tick }

/-! ## Turns -/

/-- The end of the block's turn: what the environment presented is gone. -/
def State.endTurn (s : State) : State := { s with input := none }

/-- The micro-operations and microprogram rows, which only the sequencer executes (R95). -/
def isSequencerOp : Instr → Bool
  | .seqStart _ _ | .openBus | .rd _ _ _ | .wrPage _ | .closeBus | .seqDone | .seqAbort _ _ _ => true
  | .urom00 | .urom01 | .urom02 | .urom03 | .urom04 | .urom05 | .urom06 | .urom07
  | .urom08 | .urom09 | .urom10 | .urom11 | .urom12 | .urom13 | .urom14 | .urom15
  | .urom16 | .urom17 | .urom18 | .urom19 | .urom20 | .urom21 | .urom22 | .urom23 => true
  | .pecStep _ _ | .pecChain _ | .pecCheck _ _ | .signRec _ _ | .lin11Dec _ _ | .voutDec _ _ _
  | .f64Mul _ _ | .pageBuild _ _ _
  | .fmtLin11 _ _ | .fmtVmode _ _ | .fmtVout16 _ | .fmtPagebuf _ _ | .fmtPecmsg _ _ _
  | .fmtStatus16 _ | .fmtF64 _ _ _
  | .cmdStatusWord | .cmdReadVin | .cmdReadFanSpeed1 | .cmdReadTemperature1
  | .cmdReadTemperature2 | .cmdReadIout | .cmdReadIin | .cmdReadPout | .cmdReadPin
  | .cmdVoutMode | .cmdReadVout | .cmdPage
  | .page12V1 | .page12V2 | .page12V3 | .page5V | .page3V3 => false

/-- What the environment can present: an operation at the function units' inputs is one of theirs. -/
def admissible : Input → Bool
  | .operate f bytes =>
    match decode f bytes with
    | .ok i _ => !isSequencerOp i
    | .bad _ => false
  | .quiet | .reset | .start _ _ | .response _ => true

/-- The environment's turn: a free draw (R57), an inadmissible one counting as quiet. -/
def State.sample (s : State) (x : Input) : State :=
  { s with input := some (if admissible x then x else .quiet), tick := s.tick + 1 }

/-- The block's turn with the environment's move `x` given: the state `step` is asked about. -/
def State.present (s : State) (x : Input) : State := { s with input := some x }

/-- Where the sequencer takes its next instruction from (R72): the microprogram row `seq_pc` names. -/
def State.fetchRow (s : State) : Option Instr :=
  match s.seqPc with
  | .step k => some (uromInstr k)
  | .idle => none

/-- An outcome of `exec`, with the block's turn ended. -/
def endTurnOf : Host.Outcome State Fault Refusal → Host.Outcome State Fault Refusal
  | .next s => .next s.endTurn
  | .fault r => .fault r
  | .refused r => .refused r

/-- `seq_pc` at which a micro-operation is enabled; `none` for the others. -/
def homeStep : Instr → Option (Fin 24)
  | .openBus => some 0
  | .rd _ _ dst => some (captureStep dst)
  | .wrPage rail => some (wrPageStep rail)
  | .closeBus | .seqDone => some 23
  | .seqAbort _ k _ => some k
  | .seqStart _ _ => none
  | .urom00 | .urom01 | .urom02 | .urom03 | .urom04 | .urom05 | .urom06 | .urom07
  | .urom08 | .urom09 | .urom10 | .urom11 | .urom12 | .urom13 | .urom14 | .urom15
  | .urom16 | .urom17 | .urom18 | .urom19 | .urom20 | .urom21 | .urom22 | .urom23 => none
  | .pecStep _ _ | .pecChain _ | .pecCheck _ _ | .signRec _ _ | .lin11Dec _ _ | .voutDec _ _ _
  | .f64Mul _ _ | .pageBuild _ _ _
  | .fmtLin11 _ _ | .fmtVmode _ _ | .fmtVout16 _ | .fmtPagebuf _ _ | .fmtPecmsg _ _ _
  | .fmtStatus16 _ | .fmtF64 _ _ _
  | .cmdStatusWord | .cmdReadVin | .cmdReadFanSpeed1 | .cmdReadTemperature1
  | .cmdReadTemperature2 | .cmdReadIout | .cmdReadIin | .cmdReadPout | .cmdReadPin
  | .cmdVoutMode | .cmdReadVout | .cmdPage
  | .page12V1 | .page12V2 | .page12V3 | .page5V | .page3V3 => none

/-- The state in which the very next step runs a table word as an operation (log 11). -/
def State.placeOperation (s : State) (f : Format) (bytes : List Byte) : State :=
  match decode f bytes with
  | .ok i _ =>
    match homeStep i with
    | some k => { s with seqPc := .step k, waiting := false, input := some (.operate f bytes) }
    | none => { s with input := some (.operate f bytes) }
  | .bad _ => { s with input := some (.operate f bytes) }

/-- The state in which the sequencer's next step runs microprogram row `k`. -/
def State.placeRow (s : State) (k : Fin 24) : State :=
  { s with seqPc := .step k, waiting := false, input := some .quiet }

end Sys2Proof.Machine
end

