-- ==== Sys2Proof/Machine/Codes.lean ====
section
/-!
DEFINITION. The meanings of the command codes (Table 30-3, R90) and of the page bytes (Table 30-4, R91): each
drives its row of the constant table onto the result wires (log 15).
-/

namespace Sys2Proof.Machine

/-- STATUS_WORD (R90). -/
def execCmdStatusWord (s : State) : Host.Outcome State Fault Refusal :=
  .next (s.setResult (.command (commandInfo 0x79 2 (some .status16))))

/-- READ_VIN (R90); the source names no format. -/
def execCmdReadVin (s : State) : Host.Outcome State Fault Refusal :=
  .next (s.setResult (.command (commandInfo 0x88 2 none)))

/-- READ_FAN_SPEED_1 (R90). -/
def execCmdReadFanSpeed1 (s : State) : Host.Outcome State Fault Refusal :=
  .next (s.setResult (.command (commandInfo 0x90 2 (some .lin11))))

/-- READ_TEMPERATURE_1 (R90). -/
def execCmdReadTemperature1 (s : State) : Host.Outcome State Fault Refusal :=
  .next (s.setResult (.command (commandInfo 0x8D 2 (some .lin11))))

/-- READ_TEMPERATURE_2 (R90). -/
def execCmdReadTemperature2 (s : State) : Host.Outcome State Fault Refusal :=
  .next (s.setResult (.command (commandInfo 0x8E 2 (some .lin11))))

/-- READ_IOUT (R90). -/
def execCmdReadIout (s : State) : Host.Outcome State Fault Refusal :=
  .next (s.setResult (.command (commandInfo 0x8C 2 (some .lin11))))

/-- READ_IIN (R90); the source names no format. -/
def execCmdReadIin (s : State) : Host.Outcome State Fault Refusal :=
  .next (s.setResult (.command (commandInfo 0x89 2 none)))

/-- READ_POUT (R90). -/
def execCmdReadPout (s : State) : Host.Outcome State Fault Refusal :=
  .next (s.setResult (.command (commandInfo 0x96 2 (some .lin11))))

/-- READ_PIN (R90); the source names no format. -/
def execCmdReadPin (s : State) : Host.Outcome State Fault Refusal :=
  .next (s.setResult (.command (commandInfo 0x97 2 none)))

/-- VOUT_MODE (R90). -/
def execCmdVoutMode (s : State) : Host.Outcome State Fault Refusal :=
  .next (s.setResult (.command (commandInfo 0x20 1 (some .vmode))))

/-- READ_VOUT (R90). -/
def execCmdReadVout (s : State) : Host.Outcome State Fault Refusal :=
  .next (s.setResult (.command (commandInfo 0x8B 2 (some .vout16))))

/-- PAGE (R90); one data byte and one PEC byte, written. -/
def execCmdPage (s : State) : Host.Outcome State Fault Refusal :=
  .next (s.setResult (.command (commandInfo 0x00 2 (some .pagebuf))))

/-- The page byte of rail 0 (R91). -/
def execPage12V1 (s : State) : Host.Outcome State Fault Refusal :=
  .next (s.setResult (.page (pageInfo 0)))

/-- The page byte of rail 1 (R91). -/
def execPage12V2 (s : State) : Host.Outcome State Fault Refusal :=
  .next (s.setResult (.page (pageInfo 1)))

/-- The page byte of rail 2 (R91). -/
def execPage12V3 (s : State) : Host.Outcome State Fault Refusal :=
  .next (s.setResult (.page (pageInfo 2)))

/-- The page byte of rail 3 (R91). -/
def execPage5V (s : State) : Host.Outcome State Fault Refusal :=
  .next (s.setResult (.page (pageInfo 3)))

/-- The page byte of rail 4 (R91). -/
def execPage3V3 (s : State) : Host.Outcome State Fault Refusal :=
  .next (s.setResult (.page (pageInfo 4)))

end Sys2Proof.Machine
end

