-- ==== Sys2Proof/Machine/Formats.lean ====
section
/-!
DEFINITION. The meanings of the seven data formats (R80 to R88): a format takes its word apart into its fields
and drives their readings onto the result wires (log 15).
-/

namespace Sys2Proof.Machine

/-- LIN11 (R81): both fields read as two's complement. -/
def execFmtLin11 (e : BitVec 5) (m : BitVec 11) (s : State) : Host.Outcome State Fault Refusal :=
  .next (s.setResult (.lin11 (expOf e) (mantOf m)))

/-- VMODE (R82): bits 7:5, here `_x`, are ignored. -/
def execFmtVmode (_x : BitVec 3) (e : BitVec 5) (s : State) : Host.Outcome State Fault Refusal :=
  .next (s.setResult (.vmode (expOf e)))

/-- VOUT16 (R83): the whole word, unsigned. -/
def execFmtVout16 (m : Word) (s : State) : Host.Outcome State Fault Refusal :=
  .next (s.setResult (.vout16 m.toNat))

/-- PAGEBUF (R84): byte 0 is the page byte, byte 1 the PEC. -/
def execFmtPagebuf (c p : Byte) (s : State) : Host.Outcome State Fault Refusal :=
  .next (s.setResult (.payload p c (pagebufWord p c)))

/-- PECMSG (R85): the three bytes in the order they are folded. -/
def execFmtPecmsg (a : BitVec 7) (k p : Byte) (s : State) : Host.Outcome State Fault Refusal :=
  .next (s.setResult (.message (pecMessage a k p)))

/-- STATUS16 (R86): opaque, passed on whole. -/
def execFmtStatus16 (w : Word) (s : State) : Host.Outcome State Fault Refusal :=
  .next (s.setResult (.status w))

/-- F64 (R87): sign, biased exponent, fraction. -/
def execFmtF64 (sign : BitVec 1) (e : BitVec 11) (f : BitVec 52) (s : State) : Host.Outcome State Fault Refusal :=
  .next (s.setResult (.f64Fields sign e f))

end Sys2Proof.Machine
end

