-- ==== Sys2Proof/Machine/Functions.lean ====
section
/-!
DEFINITION. The meanings of the eight function-unit operations (R95 rows 1 to 8): each drives its result wires
and changes nothing else, in every state (R254).
-/

namespace Sys2Proof.Machine

/-- PEC.STEP (R110). -/
def execPecStep (prev nxt : Byte) (s : State) : Host.Outcome State Fault Refusal :=
  .next (s.setResult (.crc (pecStep prev nxt)))

/-- PEC.CHAIN (R113). -/
def execPecChain (bytes : List Byte) (s : State) : Host.Outcome State Fault Refusal :=
  .next (s.setResult (.crc (pecChain bytes)))

/-- PEC.CHECK (R114). -/
def execPecCheck (bytes : List Byte) (pec : Byte) (s : State) : Host.Outcome State Fault Refusal :=
  .next (s.setResult (.ok (pecCheck bytes pec)))

/-- SIGN.REC (R130), refused outside `0 <= raw < 2^w`. -/
def execSignRec (w : SignWidth) (raw : BitVec 11) (s : State) : Host.Outcome State Fault Refusal :=
  if raw.toNat < 2 ^ w.bits then .next (s.setResult (.int (signRec w.bits raw.toNat)))
  else .refused .rawTooWide

/-- LIN11.DEC (R133). -/
def execLin11Dec (hi lo : Byte) (s : State) : Host.Outcome State Fault Refusal :=
  .next (s.setResult (.f64 (lin11Decode hi lo) (enc64 (lin11Decode hi lo))))

/-- VOUT.DEC (R135). -/
def execVoutDec (mode hi lo : Byte) (s : State) : Host.Outcome State Fault Refusal :=
  .next (s.setResult (.f64 (voutDecode mode hi lo) (enc64 (voutDecode mode hi lo))))

/-- F64.MUL (R143), refused on operands that are no decoder results (U15). -/
def execF64Mul (a b : Dy) (s : State) : Host.Outcome State Fault Refusal :=
  if isVoutResult a && isLin11Result b then .next (s.setResult (.f64 (dyMul a b) (enc64mul a b)))
  else .refused .notDecoderResult

/-- PAGE.BUILD (R160): `[page, pec]`, and the same as `req_wdata` (R84). -/
def execPageBuild (addr : BitVec 7) (cmd page : Byte) (s : State) : Host.Outcome State Fault Refusal :=
  let pec := pagePec addr cmd page
  .next (s.setResult (.payload page pec (pagebufWord page pec)))

end Sys2Proof.Machine
end

