-- ==== Sys2Proof/Machine/Sequencer.lean ====
section
/-!
DEFINITION. The meanings of the seven sequencer micro-operations (R95 rows 9 to 15).
-/

namespace Sys2Proof.Machine

/-- SEQ.START (R173); ignored while a poll runs (R190). -/
def execSeqStart (devAddr : BitVec 7) (busIndex : Nat) (s : State) : Host.Outcome State Fault Refusal :=
  if s.seqPc = .idle then .next (s.seqStart devAddr busIndex) else .next s

/-- OPEN (R174), at the row OPEN. -/
def execOpenBus (s : State) : Host.Outcome State Fault Refusal :=
  s.runRowIf Row.openRow

/-- RD (R176), at the row RD with the same operands. -/
def execRd (cmd : Byte) (len : BitVec 2) (dst : Fin 17) (s : State) : Host.Outcome State Fault Refusal :=
  s.runRowIf (Row.rdRow cmd len dst)

/-- WR_PAGE (R177), at the row WR_PAGE of the same rail. -/
def execWrPage (rail : Fin 5) (s : State) : Host.Outcome State Fault Refusal :=
  s.runRowIf (Row.wrPageRow rail)

/-- CLOSE (R179), at the row CLOSE. -/
def execCloseBus (s : State) : Host.Outcome State Fault Refusal :=
  s.runRowIf Row.closeRow

/-- SEQ.DONE alone (R180): the last action of a CLOSE that finds `fail = 0` (log 13). -/
def execSeqDone (s : State) : Host.Outcome State Fault Refusal :=
  if s.seqPc = .step 23 ∧ s.fail = false then .next s.seqDone else .fault .notEnabled

/-- SEQ.ABORT alone (R181): what `raise` does at step `k` (log 13). -/
def execSeqAbort (kind : FailKind) (k : Fin 24) (rw : Bool) (s : State) : Host.Outcome State Fault Refusal :=
  if s.seqPc = .step k then .next (s.seqAbort kind k rw) else .fault .notEnabled

end Sys2Proof.Machine
end

