-- ==== Sys2Proof/Machine/Urom.lean ====
section
/-!
DEFINITION. The meanings of the 24 rows of the microprogram (Table 43-1, R171): row `k` runs its micro-operation
while `seq_pc = k` (R72, R175).
-/

namespace Sys2Proof.Machine

/-- Row 0: OPEN (R174). -/
def execUrom00 (s : State) : Host.Outcome State Fault Refusal :=
  s.runRow 0

/-- Row 1: RD STATUS_WORD to C[0] (R176). -/
def execUrom01 (s : State) : Host.Outcome State Fault Refusal :=
  s.runRow 1

/-- Row 2: RD BB_TEMP_CMD to C[1] (R176). -/
def execUrom02 (s : State) : Host.Outcome State Fault Refusal :=
  s.runRow 2

/-- Row 3: WR_PAGE rail 0 (R177). -/
def execUrom03 (s : State) : Host.Outcome State Fault Refusal :=
  s.runRow 3

/-- Row 4: RD VOUT_MODE to C[2] (R176). -/
def execUrom04 (s : State) : Host.Outcome State Fault Refusal :=
  s.runRow 4

/-- Row 5: RD READ_VOUT to C[3] (R176). -/
def execUrom05 (s : State) : Host.Outcome State Fault Refusal :=
  s.runRow 5

/-- Row 6: RD READ_IOUT to C[4] (R176). -/
def execUrom06 (s : State) : Host.Outcome State Fault Refusal :=
  s.runRow 6

/-- Row 7: WR_PAGE rail 1 (R177). -/
def execUrom07 (s : State) : Host.Outcome State Fault Refusal :=
  s.runRow 7

/-- Row 8: RD VOUT_MODE to C[5] (R176). -/
def execUrom08 (s : State) : Host.Outcome State Fault Refusal :=
  s.runRow 8

/-- Row 9: RD READ_VOUT to C[6] (R176). -/
def execUrom09 (s : State) : Host.Outcome State Fault Refusal :=
  s.runRow 9

/-- Row 10: RD READ_IOUT to C[7] (R176). -/
def execUrom10 (s : State) : Host.Outcome State Fault Refusal :=
  s.runRow 10

/-- Row 11: WR_PAGE rail 2 (R177). -/
def execUrom11 (s : State) : Host.Outcome State Fault Refusal :=
  s.runRow 11

/-- Row 12: RD VOUT_MODE to C[8] (R176). -/
def execUrom12 (s : State) : Host.Outcome State Fault Refusal :=
  s.runRow 12

/-- Row 13: RD READ_VOUT to C[9] (R176). -/
def execUrom13 (s : State) : Host.Outcome State Fault Refusal :=
  s.runRow 13

/-- Row 14: RD READ_IOUT to C[10] (R176). -/
def execUrom14 (s : State) : Host.Outcome State Fault Refusal :=
  s.runRow 14

/-- Row 15: WR_PAGE rail 3 (R177). -/
def execUrom15 (s : State) : Host.Outcome State Fault Refusal :=
  s.runRow 15

/-- Row 16: RD VOUT_MODE to C[11] (R176). -/
def execUrom16 (s : State) : Host.Outcome State Fault Refusal :=
  s.runRow 16

/-- Row 17: RD READ_VOUT to C[12] (R176). -/
def execUrom17 (s : State) : Host.Outcome State Fault Refusal :=
  s.runRow 17

/-- Row 18: RD READ_IOUT to C[13] (R176). -/
def execUrom18 (s : State) : Host.Outcome State Fault Refusal :=
  s.runRow 18

/-- Row 19: WR_PAGE rail 4 (R177). -/
def execUrom19 (s : State) : Host.Outcome State Fault Refusal :=
  s.runRow 19

/-- Row 20: RD VOUT_MODE to C[14] (R176). -/
def execUrom20 (s : State) : Host.Outcome State Fault Refusal :=
  s.runRow 20

/-- Row 21: RD READ_VOUT to C[15] (R176). -/
def execUrom21 (s : State) : Host.Outcome State Fault Refusal :=
  s.runRow 21

/-- Row 22: RD READ_IOUT to C[16] (R176). -/
def execUrom22 (s : State) : Host.Outcome State Fault Refusal :=
  s.runRow 22

/-- Row 23: CLOSE (R179). -/
def execUrom23 (s : State) : Host.Outcome State Fault Refusal :=
  s.runRow 23

end Sys2Proof.Machine
end

