-- ==== Sys2Proof/Machine/Dispatch.lean ====
section
/-!
DEFINITION. The dispatch: one arm for each constructor of Instr, each a direct call of its meaning.
-/

namespace Sys2Proof.Machine

def exec (i : Instr) (s : State) : Host.Outcome State Fault Refusal :=
  match i with
  | .pecStep prev nxt => Sys2Proof.Machine.execPecStep prev nxt s
  | .pecChain bytes => Sys2Proof.Machine.execPecChain bytes s
  | .pecCheck bytes pec => Sys2Proof.Machine.execPecCheck bytes pec s
  | .signRec w raw => Sys2Proof.Machine.execSignRec w raw s
  | .lin11Dec hi lo => Sys2Proof.Machine.execLin11Dec hi lo s
  | .voutDec mode hi lo => Sys2Proof.Machine.execVoutDec mode hi lo s
  | .f64Mul a b => Sys2Proof.Machine.execF64Mul a b s
  | .pageBuild addr cmd page => Sys2Proof.Machine.execPageBuild addr cmd page s
  | .seqStart devAddr busIndex => Sys2Proof.Machine.execSeqStart devAddr busIndex s
  | .openBus => Sys2Proof.Machine.execOpenBus s
  | .rd cmd len dst => Sys2Proof.Machine.execRd cmd len dst s
  | .wrPage rail => Sys2Proof.Machine.execWrPage rail s
  | .closeBus => Sys2Proof.Machine.execCloseBus s
  | .seqDone => Sys2Proof.Machine.execSeqDone s
  | .seqAbort kind k rw => Sys2Proof.Machine.execSeqAbort kind k rw s
  | .fmtLin11 e m => Sys2Proof.Machine.execFmtLin11 e m s
  | .fmtVmode x e => Sys2Proof.Machine.execFmtVmode x e s
  | .fmtVout16 m => Sys2Proof.Machine.execFmtVout16 m s
  | .fmtPagebuf c p => Sys2Proof.Machine.execFmtPagebuf c p s
  | .fmtPecmsg a k p => Sys2Proof.Machine.execFmtPecmsg a k p s
  | .fmtStatus16 w => Sys2Proof.Machine.execFmtStatus16 w s
  | .fmtF64 sign e f => Sys2Proof.Machine.execFmtF64 sign e f s
  | .cmdStatusWord => Sys2Proof.Machine.execCmdStatusWord s
  | .cmdReadVin => Sys2Proof.Machine.execCmdReadVin s
  | .cmdReadFanSpeed1 => Sys2Proof.Machine.execCmdReadFanSpeed1 s
  | .cmdReadTemperature1 => Sys2Proof.Machine.execCmdReadTemperature1 s
  | .cmdReadTemperature2 => Sys2Proof.Machine.execCmdReadTemperature2 s
  | .cmdReadIout => Sys2Proof.Machine.execCmdReadIout s
  | .cmdReadIin => Sys2Proof.Machine.execCmdReadIin s
  | .cmdReadPout => Sys2Proof.Machine.execCmdReadPout s
  | .cmdReadPin => Sys2Proof.Machine.execCmdReadPin s
  | .cmdVoutMode => Sys2Proof.Machine.execCmdVoutMode s
  | .cmdReadVout => Sys2Proof.Machine.execCmdReadVout s
  | .cmdPage => Sys2Proof.Machine.execCmdPage s
  | .page12V1 => Sys2Proof.Machine.execPage12V1 s
  | .page12V2 => Sys2Proof.Machine.execPage12V2 s
  | .page12V3 => Sys2Proof.Machine.execPage12V3 s
  | .page5V => Sys2Proof.Machine.execPage5V s
  | .page3V3 => Sys2Proof.Machine.execPage3V3 s
  | .urom00 => Sys2Proof.Machine.execUrom00 s
  | .urom01 => Sys2Proof.Machine.execUrom01 s
  | .urom02 => Sys2Proof.Machine.execUrom02 s
  | .urom03 => Sys2Proof.Machine.execUrom03 s
  | .urom04 => Sys2Proof.Machine.execUrom04 s
  | .urom05 => Sys2Proof.Machine.execUrom05 s
  | .urom06 => Sys2Proof.Machine.execUrom06 s
  | .urom07 => Sys2Proof.Machine.execUrom07 s
  | .urom08 => Sys2Proof.Machine.execUrom08 s
  | .urom09 => Sys2Proof.Machine.execUrom09 s
  | .urom10 => Sys2Proof.Machine.execUrom10 s
  | .urom11 => Sys2Proof.Machine.execUrom11 s
  | .urom12 => Sys2Proof.Machine.execUrom12 s
  | .urom13 => Sys2Proof.Machine.execUrom13 s
  | .urom14 => Sys2Proof.Machine.execUrom14 s
  | .urom15 => Sys2Proof.Machine.execUrom15 s
  | .urom16 => Sys2Proof.Machine.execUrom16 s
  | .urom17 => Sys2Proof.Machine.execUrom17 s
  | .urom18 => Sys2Proof.Machine.execUrom18 s
  | .urom19 => Sys2Proof.Machine.execUrom19 s
  | .urom20 => Sys2Proof.Machine.execUrom20 s
  | .urom21 => Sys2Proof.Machine.execUrom21 s
  | .urom22 => Sys2Proof.Machine.execUrom22 s
  | .urom23 => Sys2Proof.Machine.execUrom23 s

end Sys2Proof.Machine
end

