-- ==== Sys2Proof/Machine/Flags.lean ====
section
/-!
DEFINITION. The outputs computed from the state: `busy` (R27), `page_state` (R34) and the snapshot
outputs (R28 to R31). The block has no flags or condition codes (R35).
-/

namespace Sys2Proof.Machine

/-- `busy` (R27). -/
def State.busy (s : State) : Bool := decide (s.seqPc ≠ .idle)

/-- The values of `page_state` (R34). -/
inductive PageState where
  | idle
  | selected (r : Fin 5)
  deriving DecidableEq, Repr, Inhabited

/-- The rail whose reads are steps `4+4r`, `5+4r`, `6+4r`. -/
def railOfStep (k : Fin 24) : Option (Fin 5) :=
  match k.val with
  | 4 | 5 | 6 => some 0
  | 8 | 9 | 10 => some 1
  | 12 | 13 | 14 => some 2
  | 16 | 17 | 18 => some 3
  | 20 | 21 | 22 => some 4
  | _ => none

/-- `page_state` (R34). -/
def State.pageState (s : State) : PageState :=
  match s.seqPc with
  | .idle => .idle
  | .step k =>
    match railOfStep k with
    | some r => .selected r
    | none => .idle

/-- Reads `C[i]` through the gate of R31: nothing while `snap_valid = 0`. -/
def State.gated (s : State) (i : Fin 17) : Option Word :=
  if s.snapValid then s.capture? i else none

/-- `snap_status` (R28). -/
def State.snapStatus (s : State) : Option Word := s.gated 0

/-- `snap_temp` (R29). -/
def State.snapTemp (s : State) : Option (BitVec 64) :=
  match s.gated 1 with
  | some w => some (enc64 (lin11Decode (hiByte w) (loByte w)))
  | none => none

/-- The exact voltage `V_r` (R30). -/
def State.voltage (s : State) (r : Fin 5) : Option Dy :=
  match s.gated (vmodeReg r), s.gated (voutReg r) with
  | some m, some w => some (voutDecode (loByte m) (hiByte w) (loByte w))
  | _, _ => none

/-- The exact current `I_r` (R30). -/
def State.current (s : State) (r : Fin 5) : Option Dy :=
  match s.gated (ioutReg r) with
  | some w => some (lin11Decode (hiByte w) (loByte w))
  | none => none

/-- The source's `RailReading` with its label (R30): binary64 patterns. -/
structure RailReading where
  label   : String
  voltage : BitVec 64
  current : BitVec 64
  power   : BitVec 64
  deriving DecidableEq, Repr, Inhabited

/-- `rail_label[r]`, `rail_voltage[r]`, `rail_current[r]`, `rail_power[r]` (R30). -/
def State.rail (s : State) (r : Fin 5) : Option RailReading :=
  match s.voltage r, s.current r with
  | some v, some i => some ⟨railLabel r, enc64 v, enc64 i, enc64mul v i⟩
  | _, _ => none

/-- The source's `BackboardSnapshot`: status, temperature and the rails in order. -/
structure Snapshot where
  status : Word
  temp   : BitVec 64
  rails  : List RailReading
  deriving DecidableEq, Repr, Inhabited

/-- The snapshot: whole or absent (R31). -/
def State.snapshot (s : State) : Option Snapshot :=
  match s.snapStatus, s.snapTemp, (List.finRange 5).mapM s.rail with
  | some w, some t, some rs => some ⟨w, t, rs⟩
  | _, _, _ => none

end Sys2Proof.Machine
end

