-- ==== Sys2Proof/Machine/Step.lean ====
section
/-!
DEFINITION. One step. While nothing is presented it is the environment's turn; then the block's: reset,
a start, an operation at the function units' inputs, or else the sequencer runs the microprogram row
`seq_pc` names, and in IDLE nothing (log 1, 2, 11).
-/

namespace Sys2Proof.Machine

/-- The sequencer's part of a turn: the row `seq_pc` names (R72), and in IDLE nothing (R250). -/
def sequencerTurn (s : State) : Host.Outcome State Fault Refusal :=
  match s.fetchRow with
  | some i => exec i s
  | none => .next s

/-- The block's turn with the environment's move `x`. -/
def blockTurn (s : State) (x : Input) : Host.Outcome State Fault Refusal :=
  match x with
  | .reset => .next s.resetBlock
  | .start a b => exec (.seqStart a b) s
  | .operate f bytes =>
    match decode f bytes with
    | .ok i _ => exec i s
    | .bad r => .refused (.undecodable r)
  | .response _ => sequencerTurn s
  | .quiet => sequencerTurn s

/-- One step of the machine. -/
def step (s : State) : Host.Outcome State Fault Refusal :=
  match s.input with
  | none => .next (s.sample (Config.draw s.stream s.tick))
  | some x => endTurnOf (blockTurn s x)

/-- The state whose next step runs the instruction of a table word (log 11): a microprogram row by
`seq_pc`, anything else at the operation inputs. -/
def State.withFetchWord (s : State) (nbits w : Nat) : State :=
  match tableFormat nbits w with
  | none => s
  | some f =>
    match decode f (tableBytes f w ++ zeroOperands) with
    | .ok _ _ =>
      if f = .urom then s.placeRow (Fin.ofNat 24 (w % 32))
      else s.placeOperation f (tableBytes f w ++ zeroOperands)
    | .bad _ => s.placeOperation f (tableBytes f w ++ zeroOperands)

end Sys2Proof.Machine
end

