-- ==== Sys2Proof/Machine/System.lean ====
section
/-!
DEFINITION. Several sequencers, one for each device address (R170, R238): each has its own copy of all
the state, and nothing is ordered between them (R66), so a step of the system is a step of any one.
-/

namespace Sys2Proof.Machine

/-- The sequencers of a system; each reads a stream of draws of its own (log 17). -/
structure System where
  sequencers : List State
  deriving DecidableEq, Repr

/-- `n` sequencers after reset. -/
def System.reset (n : Nat) : System :=
  ⟨(List.range n).map fun j => { State.reset with stream := j }⟩

/-- Sequencer `j` makes a step (R66: any of them may). Where there is no sequencer `j` nothing moves. -/
def System.stepAt (sys : System) (j : Nat) : Host.Outcome System Fault Refusal :=
  match sys.sequencers[j]? with
  | none => .next sys
  | some s =>
    match step s with
    | .next t => .next ⟨sys.sequencers.set j t⟩
    | .fault r => .fault r
    | .refused r => .refused r

/-- The host's duty R260(a): no two running polls on one device address (log 18). -/
def System.exclusive (sys : System) : Bool :=
  ((sys.sequencers.filter State.busy).map State.devAddrQ).Nodup

end Sys2Proof.Machine
end

