-- ==== Sys2Proof/Safety.lean ====
section
/-!
DEFINITION. The terms claims are stated in: the invariant of a sequencer, the accesses of Table 20-1, runs
under given moves of the environment, and the value of a binary64 pattern.
-/

namespace Sys2Proof.Machine

/-! ## The invariant -/

/-- What holds of a sequencer after reset and after every step. -/
structure State.Inv (s : State) : Prop where
  /-- Nothing is outstanding in IDLE and no connection is held (R25, R173, R185). -/
  idle_rest : s.seqPc = .idle → s.waiting = false ∧ s.connOpen = false
  /-- The request port shows the request of the step, while it is outstanding, and nothing else (R50,
  R175). -/
  request : s.reqPort = match s.seqPc with
    | .step k => if s.waiting then some (s.rowRequest (microprogram k)) else none
    | .idle => none
  /-- The connection is held from the answer to OPEN to the answer to CLOSE (R32). -/
  connection : ∀ k, s.seqPc = .step k → s.connOpen = decide (k ≠ 0)
  /-- A readable snapshot is whole, and no poll is running (R31). -/
  snapshot_whole : s.snapValid = true →
    s.seqPc = .idle ∧ s.fail = false ∧ ∀ i, s.captureValid i = true
  /-- No failure, nothing recorded (R27). -/
  no_failure : s.fail = false → s.errCode = 0 ∧ s.errStep = 0 ∧ s.errRw = false
  /-- A failure is a row of Table 60-1 (R220); the registers written before it are the valid ones (R227);
  what is left to do is at most the CLOSE (R226). -/
  failure : s.fail = true → ∃ kind k rw, abortFits kind k rw = true ∧
    s.errCode = failCode kind ∧ s.errStep = BitVec.ofNat 5 k.val ∧ s.errRw = rw ∧
    (∀ i, s.captureValid i = decide (captureStep i < k)) ∧
    (s.seqPc = .idle ∨ (s.seqPc = .step 23 ∧ k ≠ 0))
  /-- While a poll runs well, the registers of the steps done are the valid ones (R22). -/
  progress : ∀ k, s.seqPc = .step k → s.fail = false →
    ∀ i, s.captureValid i = decide (captureStep i < k)
  /-- Before the first poll nothing is valid (R37). -/
  fresh : s.seqPc = .idle → s.fail = false → s.snapValid = false → ∀ i, s.captureValid i = false
  /-- While a rail's reads are made the device is on that rail's page (R183, R257, R258). -/
  page : ∀ r, s.pageState = .selected r → s.devPage = some (pageIdx r)
  /-- An 8-bit register holds a byte (Table 10-1). -/
  byte_registers : ∀ i : Fin 17, captureWidth i = 8 → hiByte (s.captures[i.val]).bits = 0
  /-- What is presented is something the environment can present (R95). -/
  presented : ∀ x, s.input = some x → admissible x = true

/-! ## Accesses -/

/-- The requests the block can make: Table 20-1 (R61), OPEN (R52) and CLOSE (R55). -/
def tableRequest (q : Request) : Bool :=
  match q.kind with
  | .openReq => decide (q.cmd = 0 ∧ q.len = 0 ∧ q.wdata = 0)
  | .closeReq => decide (q.busIndex = 0 ∧ q.cmd = 0 ∧ q.len = 0 ∧ q.wdata = 0)
  | .readReq =>
    decide (q.busIndex = 0 ∧ q.wdata = 0) &&
    (decide (q.cmd = 0x79 ∧ q.len = 2) || decide (q.cmd = Config.bbTempCmd ∧ q.len = 2) ||
     decide (q.cmd = 0x20 ∧ q.len = 1) || decide (q.cmd = 0x8B ∧ q.len = 2) ||
     decide (q.cmd = 0x8C ∧ q.len = 2))
  | .writeReq =>
    decide (q.busIndex = 0 ∧ q.cmd = 0x00 ∧ q.len = 2) &&
    (List.finRange 5).any fun r =>
      decide (q.wdata = pagebufWord (pageIdx r) (pagePec q.addr 0x00 (pageIdx r)))

/-- The request trace of a poll that does not fail, written out from R184. -/
def pollTrace (a : BitVec 7) (b : Nat) : List Request :=
  let wr : Byte → Request := fun p => ⟨.writeReq, 0, a, 0x00, 2, pagebufWord p (pagePec a 0x00 p)⟩
  let reads : List Request :=
    [⟨.readReq, 0, a, 0x20, 1, 0⟩, ⟨.readReq, 0, a, 0x8B, 2, 0⟩, ⟨.readReq, 0, a, 0x8C, 2, 0⟩]
  [⟨.openReq, b, a, 0, 0, 0⟩, ⟨.readReq, 0, a, 0x79, 2, 0⟩,
   ⟨.readReq, 0, a, Config.bbTempCmd, 2, 0⟩] ++
  wr 0x00 :: reads ++ wr 0x01 :: reads ++ wr 0x02 :: reads ++ wr 0x10 :: reads ++
  wr 0x11 :: reads ++ [⟨.closeReq, 0, a, 0, 0, 0⟩]

/-! ## Runs under given moves of the environment -/

/-- The block's turn after the environment's move `x`, whatever it drew before. -/
def react (s : State) (x : Input) : Host.Outcome State Fault Refusal := step (s.present x)

/-- The block's turns under the moves `xs`. -/
def runInputs (s : State) : List Input → Host.Outcome State Fault Refusal
  | [] => .next s
  | x :: xs =>
    match react s x with
    | .next t => runInputs t xs
    | .fault r => .fault r
    | .refused r => .refused r

/-- The requests that appear on the request port in that run, in order. -/
def requestsOf (s : State) : List Input → List Request
  | [] => []
  | x :: xs =>
    match react s x with
    | .next t => (if s.reqPort = none then t.reqPort.toList else []) ++ requestsOf t xs
    | .fault _ => []
    | .refused _ => []

/-- The transport answers each request with the next response: a turn in which the request is issued, a
turn in which it is answered. -/
def answered (rs : List Response) : List Input := rs.flatMap fun r => [.quiet, .response r]

/-- The response lets step `k` succeed (R174, R176, R177, R179). -/
def succeeds (k : Fin 24) (r : Response) : Bool :=
  match (microprogram k).uop with
  | .openBus | .wrPage => r.ok
  | .rd => r.ok && decide (r.len = (microprogram k).len)
  | .closeBus => true

/-! ## Values -/

/-- The exact value `m * 2^e` (R9). -/
def dyValue (v : Dy) : ℚ := (v.m : ℚ) * (2 : ℚ) ^ v.e

/-- The value of a binary64 pattern that is zero or a normal number (R87, R140). -/
def f64Value (v : BitVec 64) : ℚ :=
  let sign : ℚ := if v.getLsbD 63 then -1 else 1
  let biased := (v.extractLsb' 52 11).toNat
  let frac := (v.extractLsb' 0 52).toNat
  if biased = 0 ∧ frac = 0 then 0
  else sign * (1 + (frac : ℚ) / 2 ^ 52) * (2 : ℚ) ^ ((biased : Int) - 1023)

end Sys2Proof.Machine
end

