-- ==== Sys2Proof/Certificates/Slice0/Obligations.lean ====
section
/-!
DEFINITION. The statements for the provers, written from the numbered rules of spec/.
-/

open Sys2Proof Sys2Proof.Machine

/-! ## PEC generator (40_pec.md) -/

/-- R112: the bit-serial routine generates Table 40-1; its worked trace for 0xB0. -/
def Obligations.CrcTableIsBitSerial : Prop :=
  (∀ i : Byte, crcTable i = crc8Byte i) ∧
  [crc8Shift 0xB0, crc8Shift 0x67, crc8Shift 0xCE, crc8Shift 0x9B, crc8Shift 0x31, crc8Shift 0x62,
    crc8Shift 0xC4, crc8Shift 0x8F] = [0x67, 0xCE, 0x9B, 0x31, 0x62, 0xC4, 0x8F, 0x19] ∧
  crcTable 0xB0 = 0x19

/-- R110: PEC.STEP looks the exclusive or of its operands up in T, from any state, and changes nothing but
its result wires; it is total, symmetric, and zero on equal operands. -/
def Obligations.PecStepResult : Prop :=
  ∀ (p n : Byte) (s : State),
    exec (.pecStep p n) s = .next { s with result := .crc (crcTable (p ^^^ n)) } ∧
    pecStep p n = pecStep n p ∧ pecStep p p = 0 ∧ pecStep 0x00 0xB0 = 0x19

/-- R113: PEC.CHAIN folds T over the sequence from the initial value 0, and changes nothing but its result
wires; the empty sequence gives 0, one byte its table entry, and leading zeros change nothing. -/
def Obligations.PecChainResult : Prop :=
  ∀ (bytes : List Byte) (b : Byte) (s : State),
    exec (.pecChain bytes) s =
      .next { s with result := .crc (bytes.foldl (fun c x => crcTable (c ^^^ x)) 0) } ∧
    pecChain [] = 0 ∧ pecChain [b] = crcTable b ∧ pecChain (0 :: bytes) = pecChain bytes ∧
    pecChain [0x5A, 0x00] ≠ pecChain [0x5A] ∧ pecChain [0xB0, 0x00, 0x10] = 0x9A ∧
    pecChain [0x31, 0x32, 0x33, 0x34, 0x35, 0x36, 0x37, 0x38, 0x39] = 0xF4

/-- R114: PEC.CHECK says whether the chain is the PEC, equivalently whether the chain of the sequence
followed by the PEC is 0, and changes nothing but its result wires. -/
def Obligations.PecCheckResult : Prop :=
  ∀ (bytes : List Byte) (pec : Byte) (s : State), ∃ ok : Bool,
    exec (.pecCheck bytes pec) s = .next { s with result := .ok ok } ∧
    (ok = true ↔ pecChain bytes = pec) ∧ (ok = true ↔ pecChain (bytes ++ [pec]) = 0)

/-- R115(a), (b) and (d): T is linear with the eight generators, a bijection on bytes with T[0] = 0, and the
XOR network, bit by bit. -/
def Obligations.CrcTableIsALinearBijection : Prop :=
  (∀ a b : Byte, crcTable (a ^^^ b) = crcTable a ^^^ crcTable b) ∧
  [crcTable 0x01, crcTable 0x02, crcTable 0x04, crcTable 0x08, crcTable 0x10, crcTable 0x20,
    crcTable 0x40, crcTable 0x80] = [0x07, 0x0E, 0x1C, 0x38, 0x70, 0xE0, 0xC7, 0x89] ∧
  Function.Bijective crcTable ∧ crcTable 0 = 0 ∧
  ∀ (x : Byte) (i o : Nat → Bool), i = x.getLsbD → o = (crcTable x).getLsbD →
    o 0 = (i 0 ^^ i 6 ^^ i 7) ∧ o 1 = (i 0 ^^ i 1 ^^ i 6) ∧ o 2 = (i 0 ^^ i 1 ^^ i 2 ^^ i 6) ∧
    o 3 = (i 1 ^^ i 2 ^^ i 3 ^^ i 7) ∧ o 4 = (i 2 ^^ i 3 ^^ i 4) ∧ o 5 = (i 3 ^^ i 4 ^^ i 5) ∧
    o 6 = (i 4 ^^ i 5 ^^ i 6) ∧ o 7 = (i 5 ^^ i 6 ^^ i 7)

/-- R115(c) and (e): the chain is linear on sequences of one length, and a sequence followed by its own PEC
has the chain 0. -/
def Obligations.PecChainLinearWithZeroResidue : Prop :=
  (∀ p q : List Byte, p.length = q.length →
    pecChain (List.zipWith (· ^^^ ·) p q) = pecChain p ^^^ pecChain q) ∧
  (∀ p : List Byte, pecChain (p ++ [pecChain p]) = 0)

/-! ## Decoders (41_decoders.md) -/

/-- R130: SIGN.REC on a field of its width subtracts 2^w exactly when the sign bit is set; the result is in
range; only the result wires change. -/
def Obligations.SignRecResult : Prop :=
  ∀ (w : SignWidth) (raw : BitVec 11) (s : State), raw.toNat < 2 ^ w.bits → ∃ z : Int,
    exec (.signRec w raw) s = .next { s with result := .int z } ∧
    (raw.getLsbD (w.bits - 1) = true → z = (raw.toNat : Int) - 2 ^ w.bits) ∧
    (raw.getLsbD (w.bits - 1) = false → z = raw.toNat) ∧
    -2 ^ (w.bits - 1) ≤ z ∧ z ≤ 2 ^ (w.bits - 1) - 1

/-- R133 (with R131 and R132): LIN11.DEC in whole numbers: the exponent is the top five bits and the
mantissa the low eleven, both two's complement; only the result wires change. -/
def Obligations.Lin11DecResult : Prop :=
  ∀ (hi lo : Byte) (s : State), ∃ e m : Int,
    exec (.lin11Dec hi lo) s = .next { s with result := .f64 ⟨m, e⟩ (enc64 ⟨m, e⟩) } ∧
    (∃ w : Nat, w = hi.toNat * 256 + lo.toNat ∧
      e = (if w / 2048 < 16 then (w / 2048 : Int) else (w / 2048 : Int) - 32) ∧
      m = (if w % 2048 < 1024 then (w % 2048 : Int) else (w % 2048 : Int) - 2048))

/-- R135 (with R131 and R134): VOUT.DEC in whole numbers: the exponent is the mode byte's low five bits,
two's complement, the mantissa the whole word, unsigned; only the result wires change. -/
def Obligations.VoutDecResult : Prop :=
  ∀ (mode hi lo : Byte) (s : State), ∃ e : Int, ∃ u : Nat,
    exec (.voutDec mode hi lo) s = .next { s with result := .f64 ⟨u, e⟩ (enc64 ⟨u, e⟩) } ∧
    u = hi.toNat * 256 + lo.toNat ∧
    e = (if mode.toNat % 32 < 16 then (mode.toNat % 32 : Int) else (mode.toNat % 32 : Int) - 32)

/-- R143: F64.MUL on decoder results gives the exact product, and of a zero product minus zero exactly when
the voltage is zero and the current negative; only the result wires change. -/
def Obligations.F64MulResult : Prop :=
  ∀ (a b : Dy) (s : State), 0 ≤ a.m → a.m ≤ 65535 → -16 ≤ a.e → a.e ≤ 15 →
    -1024 ≤ b.m → b.m ≤ 1023 → -16 ≤ b.e → b.e ≤ 15 →
    exec (.f64Mul a b) s =
      .next { s with
        result := .f64 ⟨a.m * b.m, a.e + b.e⟩
          (if a.m * b.m ≠ 0 then enc64 ⟨a.m * b.m, a.e + b.e⟩
           else if a.m = 0 ∧ b.m < 0 then 0x8000000000000000 else 0x0000000000000000) }

/-- R143 and R130: outside decoder results F64.MUL is refused, and SIGN.REC outside its field's range. -/
def Obligations.OperandsOutsideTheRulesAreRefused : Prop :=
  (∀ (a b : Dy) (s : State), (isVoutResult a && isLin11Result b) = false →
    exec (.f64Mul a b) s = .refused .notDecoderResult) ∧
  (∀ (w : SignWidth) (raw : BitVec 11) (s : State), 2 ^ w.bits ≤ raw.toNat →
    exec (.signRec w raw) s = .refused .rawTooWide)

/-- R139: both round trips, over every value of the ranges. -/
def Obligations.DecodersRoundTrip : Prop :=
  (∀ m e : Int, -1024 ≤ m → m ≤ 1023 → -16 ≤ e → e ≤ 15 →
    ∀ w : Word, w = BitVec.ofNat 16 (((e % 32).toNat <<< 11) ||| (m % 2048).toNat) →
      lin11Decode (hiByte w) (loByte w) = ⟨m, e⟩) ∧
  (∀ (u : Nat) (e : Int), u ≤ 65535 → -16 ≤ e → e ≤ 15 →
    voutDecode (BitVec.ofNat 8 (e % 32).toNat) (hiByte (BitVec.ofNat 16 u))
      (loByte (BitVec.ofNat 16 u)) = ⟨u, e⟩)

/-- R138: the ranges of the fields and of the values, and that every value is a multiple of 2^-16. -/
def Obligations.DecoderRanges : Prop :=
  (∀ hi lo : Byte, ∃ v : Dy, v = lin11Decode hi lo ∧ -1024 ≤ v.m ∧ v.m ≤ 1023 ∧ -16 ≤ v.e ∧ v.e ≤ 15 ∧
    -33554432 ≤ dyValue v ∧ dyValue v ≤ 33521664 ∧ ∃ n : Int, dyValue v = n * (2 : ℚ) ^ (-16 : Int)) ∧
  (∀ mode hi lo : Byte, ∃ v : Dy, v = voutDecode mode hi lo ∧ 0 ≤ v.m ∧ v.m ≤ 65535 ∧ -16 ≤ v.e ∧
    v.e ≤ 15 ∧ 0 ≤ dyValue v ∧ dyValue v ≤ 2147450880 ∧
    ∃ n : Int, dyValue v = n * (2 : ℚ) ^ (-16 : Int))

/-- R140 and R141: on every value the block can produce the binary64 pattern is exact, and two pairs of one
value have one pattern. -/
def Obligations.BinaryPatternsAreExact : Prop :=
  (∀ v : Dy, v.m.natAbs < 2 ^ 26 → -32 ≤ v.e → v.e ≤ 30 → f64Value (enc64 v) = dyValue v) ∧
  (∀ v w : Dy, v.m.natAbs < 2 ^ 26 → -32 ≤ v.e → v.e ≤ 30 → w.m.natAbs < 2 ^ 26 → -32 ≤ w.e →
    w.e ≤ 30 → dyValue v = dyValue w → enc64 v = enc64 w)

/-- R140: the exact product of two decoder results is in the range of the statement before. -/
def Obligations.ProductsStayExact : Prop :=
  ∀ mode uh ul ih il : Byte, ∃ p : Dy, p = dyMul (voutDecode mode uh ul) (lin11Decode ih il) ∧
    p.m.natAbs ≤ 67107840 ∧ -32 ≤ p.e ∧ p.e ≤ 30 ∧
    dyValue p = dyValue (voutDecode mode uh ul) * dyValue (lin11Decode ih il) ∧
    f64Value (enc64mul (voutDecode mode uh ul) (lin11Decode ih il)) = dyValue p

/-- R142: a zero mantissa gives the pattern of positive zero for every exponent, and neither decoder gives
negative zero. -/
def Obligations.DecoderZeroIsPositive : Prop :=
  (∀ hi lo : Byte, (hi.toNat * 256 + lo.toNat) % 2048 = 0 → enc64 (lin11Decode hi lo) = 0) ∧
  (∀ mode : Byte, enc64 (voutDecode mode 0 0) = 0) ∧
  (∀ hi lo : Byte, enc64 (lin11Decode hi lo) ≠ 0x8000000000000000) ∧
  (∀ mode hi lo : Byte, enc64 (voutDecode mode hi lo) ≠ 0x8000000000000000)

/-! ## Transaction builder (42_txbuilder.md) -/

/-- R160: PAGE.BUILD gives the page byte and the chain over `[addr << 1, cmd, page]`, for every operand, and
changes nothing but its result wires. -/
def Obligations.PageBuildResult : Prop :=
  ∀ (addr : BitVec 7) (cmd page : Byte) (s : State), ∃ pec : Byte,
    pec = crcTable (crcTable (crcTable (BitVec.ofNat 8 (2 * addr.toNat)) ^^^ cmd) ^^^ page) ∧
    exec (.pageBuild addr cmd page) s =
      .next { s with result := .payload page pec (BitVec.ofNat 16 (pec.toNat * 256 + page.toNat)) }

/-- R162: the five payloads of a poll, for 0x58 in numbers, and for every address the page-0x00 PEC with
T of the page added. -/
def Obligations.PagePayloadsOfOnePoll : Prop :=
  (∀ (s : State) (r : Fin 5), ∃ p : Byte, p = [0x00, 0x01, 0x02, 0x10, 0x11].getD r.val 0 ∧
    (s.rowRequest (microprogram (wrPageStep r))).wdata = pagebufWord p (pagePec s.devAddrQ 0x00 p)) ∧
  (∀ (a : BitVec 7) (p : Byte), pagePec a 0x00 p = pagePec a 0x00 0x00 ^^^ crcTable p) ∧
  [pagePec 0x58 0 0x00, pagePec 0x58 0 0x01, pagePec 0x58 0 0x02, pagePec 0x58 0 0x10,
    pagePec 0x58 0 0x11] = [0xEA, 0xED, 0xE4, 0x9A, 0x9D]

/-- R265 (H8): payloads for two addresses differ in their PEC. -/
def Obligations.PayloadBelongsToOneAddress : Prop :=
  ∀ (a a' : BitVec 7) (cmd page : Byte), a ≠ a' → pagePec a cmd page ≠ pagePec a' cmd page

/-! ## Formats and constants (30_encoding.md) -/

/-- R81, R82, R83: the three numeric formats, decoded from their bits: fields and readings; only the result
wires change. That a format is an operation with a result is the model's choice (log 15). -/
def Obligations.NumericFormatsReadTheirFields : Prop :=
  (∀ (w : Word) (s : State), ∃ (e : BitVec 5) (m : BitVec 11),
    decode .lin11 [loByte w, hiByte w] = .ok (.fmtLin11 e m) [] ∧
    e.toNat = w.toNat / 2048 ∧ m.toNat = w.toNat % 2048 ∧
    exec (.fmtLin11 e m) s = .next { s with result := .lin11 e.toInt m.toInt }) ∧
  (∀ (b : Byte) (s : State), ∃ (x : BitVec 3) (e : BitVec 5),
    decode .vmode [b] = .ok (.fmtVmode x e) [] ∧ e.toNat = b.toNat % 32 ∧
    exec (.fmtVmode x e) s = .next { s with result := .vmode e.toInt }) ∧
  (∀ (w : Word) (s : State),
    decode .vout16 [loByte w, hiByte w] = .ok (.fmtVout16 w) [] ∧
    exec (.fmtVout16 w) s = .next { s with result := .vout16 w.toNat })

/-- R84, R85, R86, R87: the two byte-sequence formats, the opaque status word and the binary64 pattern,
decoded from their bits; only the result wires change. That a format is an operation with a result is the
model's choice (log 15), and so is the byte order of the F64 word, least significant byte first (log 5), since
R87 and R88 give a 64-bit word none. -/
def Obligations.ByteFormatsReadTheirFields : Prop :=
  (∀ (p c : Byte) (s : State), decode .pagebuf [p, c] = .ok (.fmtPagebuf c p) [] ∧
    exec (.fmtPagebuf c p) s =
      .next { s with result := .payload p c (BitVec.ofNat 16 (c.toNat * 256 + p.toNat)) }) ∧
  (∀ (a : BitVec 7) (k p : Byte) (s : State),
    decode .pecmsg [BitVec.ofNat 8 (2 * a.toNat), k, p] = .ok (.fmtPecmsg a k p) [] ∧
    exec (.fmtPecmsg a k p) s =
      .next { s with result := .message [BitVec.ofNat 8 (2 * a.toNat), k, p] }) ∧
  (∀ (w : Word) (s : State), decode .status16 [loByte w, hiByte w] = .ok (.fmtStatus16 w) [] ∧
    exec (.fmtStatus16 w) s = .next { s with result := .status w }) ∧
  (∀ (v : BitVec 64) (s : State), ∃ (sg : BitVec 1) (e : BitVec 11) (f : BitVec 52),
    decode .f64 (bytes8 v) = .ok (.fmtF64 sg e f) [] ∧ sg.toNat = v.toNat / 2 ^ 63 ∧
    e.toNat = v.toNat / 2 ^ 52 % 2 ^ 11 ∧ f.toNat = v.toNat % 2 ^ 52 ∧
    exec (.fmtF64 sg e f) s = .next { s with result := .f64Fields sg e f })

/-- What the statement below says of one command code. -/
def CommandRow (i : Instr) (code : Byte) (bytes : Nat) (form : Option Format) (steps : List (Fin 24)) :
    Prop :=
  decode .cmd8 [code] = .ok i [] ∧ ∀ s : State, ∃ info : CommandInfo,
    exec i s = .next { s with result := .command info } ∧
    info.code = code ∧ info.bytes = bytes ∧ info.form = form ∧
    (∀ k : Fin 24, k ≠ 2 → (k ∈ info.emitted ↔ k ∈ steps)) ∧
    ((2 : Fin 24) ∈ info.emitted ↔ Config.bbTempCmd = code)

/-- R90: the twelve command codes: number, data size, format where the spec names one, and the steps that
emit it; the temperature step emits `BB_TEMP_CMD`, whatever it is. That a row
has a result is the model's choice (log 15). -/
def Obligations.CommandCodesAreTable303 : Prop :=
  CommandRow .cmdStatusWord 0x79 2 (some .status16) [1] ∧
  CommandRow .cmdReadVin 0x88 2 none [] ∧
  CommandRow .cmdReadFanSpeed1 0x90 2 (some .lin11) [] ∧
  CommandRow .cmdReadTemperature1 0x8D 2 (some .lin11) [] ∧
  CommandRow .cmdReadTemperature2 0x8E 2 (some .lin11) [] ∧
  CommandRow .cmdReadIout 0x8C 2 (some .lin11) [6, 10, 14, 18, 22] ∧
  CommandRow .cmdReadIin 0x89 2 none [] ∧
  CommandRow .cmdReadPout 0x96 2 (some .lin11) [] ∧
  CommandRow .cmdReadPin 0x97 2 none [] ∧
  CommandRow .cmdVoutMode 0x20 1 (some .vmode) [4, 8, 12, 16, 20] ∧
  CommandRow .cmdReadVout 0x8B 2 (some .vout16) [5, 9, 13, 17, 21] ∧
  CommandRow .cmdPage 0x00 2 (some .pagebuf) [3, 7, 11, 15, 19]

/-- What the statement below says of one page byte. -/
def PageRow (i : Instr) (rail : Fin 5) (label : String) (byte : Byte) (k : Fin 24) : Prop :=
  decode .page8 [byte] = .ok i [] ∧
  ∀ s : State, exec i s = .next { s with result := .page ⟨rail, label, byte, k⟩ }

/-- R91: the five page bytes, their rails, labels and WR_PAGE steps. That a row has a result is the model's
choice (log 15). -/
def Obligations.PageBytesAreTable304 : Prop :=
  PageRow .page12V1 0 "12V1" 0x00 3 ∧ PageRow .page12V2 1 "12V2" 0x01 7 ∧
  PageRow .page12V3 2 "12V3" 0x02 11 ∧ PageRow .page5V 3 "5V" 0x10 15 ∧
  PageRow .page3V3 4 "3.3V" 0x11 19

/-- R171: the microprogram: the four rows outside the rails and, for every rail, its four rows in closed
form. -/
def Obligations.MicroprogramIsTable431 : Prop :=
  microprogram 0 = ⟨.openBus, 0, 0, 0, 0⟩ ∧ microprogram 1 = ⟨.rd, 0x79, 2, 0, 0⟩ ∧
  microprogram 2 = ⟨.rd, Config.bbTempCmd, 2, 1, 0⟩ ∧ microprogram 23 = ⟨.closeBus, 0, 0, 0, 0⟩ ∧
  ∀ (r : Fin 5) (k : Fin 24) (d : Fin 17),
    (k.val = 3 + 4 * r.val → microprogram k = ⟨.wrPage, 0x00, 2, 0, r⟩) ∧
    (k.val = 4 + 4 * r.val → d.val = 2 + 3 * r.val → microprogram k = ⟨.rd, 0x20, 1, d, 0⟩) ∧
    (k.val = 5 + 4 * r.val → d.val = 3 + 3 * r.val → microprogram k = ⟨.rd, 0x8B, 2, d, 0⟩) ∧
    (k.val = 6 + 4 * r.val → d.val = 4 + 3 * r.val → microprogram k = ⟨.rd, 0x8C, 2, d, 0⟩)

/-- R254: every well-formed function-unit operation completes in every state, whether or not a poll runs, and
changes nothing but the result wires. That formats, command codes and page bytes are operations that do the
same is the model's choice (log 15), and so are the result wires as a field (log 3). -/
def Obligations.FunctionUnitsNeverTouchTheSequencer : Prop :=
  ∀ (i : Instr) (s : State), i.WellFormed → isSequencerOp i = false →
    ∃ r : Result, exec i s = .next { s with result := r }

/-- Decode and encode agree: every well-formed instruction, followed by any bytes, is read back. The layout of
operand bytes and the byte order of the F64 word are the model's choice (log 5). -/
def Obligations.DecodeReadsBackEncode : Prop :=
  ∀ (i : Instr) (rest : List Byte), i.WellFormed →
    decode (formatOf i) (encode i ++ rest) = .ok i rest

/-- What the decoder reads is well-formed, from any bytes of any table: SIGN.REC's field fits its width
(R130), F64.MUL's operands are decoder results (R143), RD's command and length are its register's (R21, R61),
SEQ.ABORT is a row of Table 60-1 (R220). Which bytes encode them is the model's choice (log 5), and that these
are the checks is DEDUCED (log 21, 22). -/
def Obligations.DecodedInstructionsAreWellFormed : Prop :=
  ∀ (f : Format) (bytes rest : List Byte) (i : Instr), decode f bytes = .ok i rest →
    i.WellFormed ∧ formatOf i = f

/-- Words written out from the spec's encodings decode to what they stand for, one of each of the eleven
tables; the operand bytes of the operation's word, and the byte order of the F64 word, are the model's choice
(log 5). -/
def Obligations.WrittenOutWordsDecode : Prop :=
  decode .lin11 [0x64, 0xB0] = .ok (.fmtLin11 0b10110 100) [] ∧
  decode .vmode [0xF7] = .ok (.fmtVmode 0b111 0b10111) [] ∧
  decode .vout16 [0x1A, 0x18] = .ok (.fmtVout16 0x181A) [] ∧
  decode .status16 [0x02, 0x08] = .ok (.fmtStatus16 0x0802) [] ∧
  decode .f64 [0x00, 0x00, 0x00, 0x00, 0x00, 0x00, 0xE0, 0xBF] = .ok (.fmtF64 1 0x3FE 0) [] ∧
  decode .pagebuf [0x10, 0x9A] = .ok (.fmtPagebuf 0x9A 0x10) [] ∧
  decode .pecmsg [0xB0, 0x00, 0x10] = .ok (.fmtPecmsg 0x58 0x00 0x10) [] ∧
  decode .cmd8 [0x8B] = .ok .cmdReadVout [] ∧ decode .page8 [0x10] = .ok .page5V [] ∧
  decode .urom [0x0F] = .ok .urom15 [] ∧ decode .op [0x08, 0x58, 0x00, 0x10] = .ok (.pageBuild 0x58 0 0x10) []

/-! ## Sequencer (43_sequencer.md, 60_exceptions.md) -/

/-- R173: SEQ.START in IDLE: what it latches, clears and sets, and nothing else of the block; of the device's
page, which is not the block's, PagedReadsFollowTheirPageWrite speaks. That the registers' stored bits stay as
they were, which R22 leaves unspecified while they are invalid, is the model's reading (log 23). -/
def Obligations.SeqStartBeginsAPoll : Prop :=
  ∀ (a : BitVec 7) (b : Nat) (s : State), s.seqPc = .idle → ∃ t : State,
    exec (.seqStart a b) s = .next t ∧
    (∀ i : Fin 17, t.captureValid i = false ∧ (t.captures[i.val]).bits = (s.captures[i.val]).bits) ∧
    t = { s with
      devAddrQ := a, busIndexQ := b, captures := t.captures, snapValid := false, fail := false
      errCode := 0, errStep := 0, errRw := false, waiting := false, seqPc := .step 0, devPage := t.devPage }

/-- R190: a start while a poll runs changes nothing. -/
def Obligations.StartWhileBusyIsIgnored : Prop :=
  ∀ (a : BitVec 7) (b : Nat) (s : State), s.seqPc ≠ .idle → exec (.seqStart a b) s = .next s

/-- R175, issue half, for every row and for every micro-operation with its operands: at its step, with
nothing outstanding, its request is put on the port and `waiting` set; nothing else changes. -/
def Obligations.IssueHalfPresentsTheRowsRequest : Prop :=
  (∀ (k : Fin 24) (s : State), s.seqPc = .step k → s.waiting = false →
    exec (uromInstr k) s =
      .next { s with waiting := true, reqPort := some (s.rowRequest (microprogram k)) }) ∧
  (∀ s : State, s.seqPc = .step 0 → s.waiting = false →
    exec .openBus s =
      .next { s with waiting := true, reqPort := some ⟨.openReq, s.busIndexQ, s.devAddrQ, 0, 0, 0⟩ }) ∧
  (∀ (d : Fin 17) (s : State), s.seqPc = .step (captureStep d) → s.waiting = false →
    exec (.rd (captureCmd d) (captureLen d) d) s =
      .next { s with
        waiting := true
        reqPort := some ⟨.readReq, 0, s.devAddrQ, captureCmd d, captureLen d, 0⟩ }) ∧
  (∀ (r : Fin 5) (s : State), s.seqPc = .step (wrPageStep r) → s.waiting = false →
    exec (.wrPage r) s =
      .next { s with
        waiting := true
        reqPort := some ⟨.writeReq, 0, s.devAddrQ, 0x00, 2,
          pagebufWord (pageIdx r) (pagePec s.devAddrQ 0x00 (pageIdx r))⟩ }) ∧
  (∀ s : State, s.seqPc = .step 23 → s.waiting = false →
    exec .closeBus s =
      .next { s with waiting := true, reqPort := some ⟨.closeReq, 0, s.devAddrQ, 0, 0, 0⟩ })

/-- The microprogram's rows as instructions are the 24 constructors in order, and outside its step each is
not enabled (R72). -/
def Obligations.RowsRunOnlyAtTheirStep : Prop :=
  (List.finRange 24).map uromInstr =
    [.urom00, .urom01, .urom02, .urom03, .urom04, .urom05, .urom06, .urom07, .urom08, .urom09, .urom10,
     .urom11, .urom12, .urom13, .urom14, .urom15, .urom16, .urom17, .urom18, .urom19, .urom20, .urom21,
     .urom22, .urom23] ∧
  (∀ (k : Fin 24) (s : State), s.seqPc ≠ .step k → exec (uromInstr k) s = .fault .notEnabled) ∧
  (∀ (k : Fin 24) (s : State), s.seqPc = .step k → s.waiting = true → s.response? = none →
    exec (uromInstr k) s = .next s)

/-- R174: OPEN, both halves, as the micro-operation and as row 0. -/
def Obligations.OpenAcquiresTheConnection : Prop :=
  ∀ (i : Instr) (s : State), (i = .openBus ∨ i = .urom00) → s.seqPc = .step 0 →
    (s.waiting = false → exec i s =
      .next { s with waiting := true, reqPort := some ⟨.openReq, s.busIndexQ, s.devAddrQ, 0, 0, 0⟩ }) ∧
    (∀ r : Response, s.waiting = true → s.input = some (.response r) →
      exec i s = .next (if r.ok then
        { s with waiting := false, reqPort := none, connOpen := true, seqPc := .step 1 }
      else
        { s with
          waiting := false, reqPort := none, fail := true, errCode := 1, errStep := 0, errRw := false
          seqPc := .idle }))

/-- R176: RD, both halves, for every capture register, as the micro-operation and as its row: the request,
the success, the read error, the wrong length, in that order of tests (R228); a failed read writes no
register. -/
def Obligations.RdStoresWhatTheDeviceAnswers : Prop :=
  ∀ (d : Fin 17) (i : Instr) (s : State),
    (i = .rd (captureCmd d) (captureLen d) d ∨ i = uromInstr (captureStep d)) →
    s.seqPc = .step (captureStep d) →
    (s.waiting = false → exec i s = .next { s with
      waiting := true
      reqPort := some ⟨.readReq, 0, s.devAddrQ, captureCmd d, captureLen d, 0⟩ }) ∧
    (∀ r : Response, s.waiting = true → s.input = some (.response r) →
      exec i s = .next (
        if r.ok = false then
          { s with
            waiting := false, reqPort := none, fail := true, errCode := 2
            errStep := BitVec.ofNat 5 (captureStep d).val, errRw := false, seqPc := .step 23 }
        else if r.len ≠ captureLen d then
          { s with
            waiting := false, reqPort := none, fail := true, errCode := 3
            errStep := BitVec.ofNat 5 (captureStep d).val, errRw := false, seqPc := .step 23 }
        else
          { s with
            waiting := false, reqPort := none
            captures := s.captures.set d.val
              ⟨if captureLen d = 2 then r.data else BitVec.ofNat 16 (r.data.toNat % 256), true⟩ d.isLt
            seqPc := .step (Fin.ofNat 24 ((captureStep d).val + 1)) }))

/-- R177: WR_PAGE, both halves, for every rail, as the micro-operation and as its row. A completed write
leaves the device on the rail's page (R33); after a failed one its page is unknown (R227). The page is the
model's field (log 10), the device's so long as no second master writes it (log 18) and no dropped or failed
page write lands later (log 24), nor a late response is taken for its answer (log 25). -/
def Obligations.WrPageSelectsTheRail : Prop :=
  ∀ (r : Fin 5) (i : Instr) (s : State), (i = .wrPage r ∨ i = uromInstr (wrPageStep r)) →
    s.seqPc = .step (wrPageStep r) →
    (s.waiting = false → exec i s = .next { s with
      waiting := true
      reqPort := some ⟨.writeReq, 0, s.devAddrQ, 0x00, 2,
        pagebufWord (pageIdx r) (pagePec s.devAddrQ 0x00 (pageIdx r))⟩ }) ∧
    (∀ rsp : Response, s.waiting = true → s.input = some (.response rsp) →
      exec i s = .next (
        if rsp.ok then
          { s with
            waiting := false, reqPort := none, devPage := some (pageIdx r)
            seqPc := .step (Fin.ofNat 24 (4 + 4 * r.val)) }
        else
          { s with
            waiting := false, reqPort := none, devPage := none, fail := true, errCode := 2
            errStep := BitVec.ofNat 5 (3 + 4 * r.val), errRw := true, seqPc := .step 23 }))

/-- R179: CLOSE, both halves, as the micro-operation and as row 23: the connection is released whatever the
response says, and without a failure the snapshot becomes readable. -/
def Obligations.CloseReleasesOnEveryPath : Prop :=
  ∀ (i : Instr) (s : State), (i = .closeBus ∨ i = .urom23) → s.seqPc = .step 23 →
    (s.waiting = false → exec i s =
      .next { s with waiting := true, reqPort := some ⟨.closeReq, 0, s.devAddrQ, 0, 0, 0⟩ }) ∧
    (∀ r : Response, s.waiting = true → s.input = some (.response r) →
      exec i s = .next { s with
        waiting := false, reqPort := none, connOpen := false
        snapValid := if s.fail then s.snapValid else true
        seqPc := .idle })

/-- R180: SEQ.DONE sets `snap_valid` and nothing else, at the end of a CLOSE that finds `fail = 0` (that it
stands alone is the model's form, log 13). -/
def Obligations.SeqDoneMakesTheSnapshotReadable : Prop :=
  ∀ s : State, s.seqPc = .step 23 → s.fail = false →
    exec .seqDone s = .next { s with snapValid := true }

/-- R181 and R226: SEQ.ABORT at step `k`: what is recorded, where control goes, and that everything else is
kept (that it stands alone is the model's form, log 13). -/
def Obligations.SeqAbortRecordsAndLeaves : Prop :=
  ∀ (kind : FailKind) (k : Fin 24) (rw : Bool) (s : State), s.seqPc = .step k →
    exec (.seqAbort kind k rw) s = .next { s with
      fail := true
      errCode := (match kind with | .transportOpen => 1 | .transportIO => 2 | .decodeFailure => 3)
      errStep := BitVec.ofNat 5 k.val, errRw := rw, waiting := false, reqPort := none
      seqPc := if k = 0 then .idle else .step 23 }

/-- Micro-operations presented anywhere but at their row are not enabled (R72, R95; log 12). -/
def Obligations.MicroOperationsStopOutsideTheirRow : Prop :=
  ∀ s : State,
    (s.seqPc ≠ .step 0 → exec .openBus s = .fault .notEnabled) ∧
    (∀ (c : Byte) (l : BitVec 2) (d : Fin 17),
      (s.seqPc ≠ .step (captureStep d) ∨ c ≠ captureCmd d ∨ l ≠ captureLen d) →
        exec (.rd c l d) s = .fault .notEnabled) ∧
    (∀ r : Fin 5, s.seqPc ≠ .step (wrPageStep r) → exec (.wrPage r) s = .fault .notEnabled) ∧
    (s.seqPc ≠ .step 23 → exec .closeBus s = .fault .notEnabled) ∧
    (s.seqPc ≠ .step 23 ∨ s.fail = true → exec .seqDone s = .fault .notEnabled) ∧
    (∀ (kind : FailKind) (k : Fin 24) (rw : Bool), s.seqPc ≠ .step k →
      exec (.seqAbort kind k rw) s = .fault .notEnabled)

/-- R220, Table 60-1: a step that begins a failure takes a response, and what it records is the row of the
table for the step, the micro-operation and the response. R230 (with R27 and R228): a recorded failure
persists as it was recorded until a start is taken in IDLE, which clears it and begins a poll at step 0, or
reset is presented (R250). -/
def Obligations.FailuresAreTable601 : Prop :=
  (∀ s t : State, s.Inv → step s = .next t → s.fail = true →
    (∀ a b, s.seqPc = .idle → s.input = some (.start a b) →
      t.seqPc = .step 0 ∧ t.fail = false ∧ t.errCode = 0 ∧ t.errStep = 0 ∧ t.errRw = false) ∧
    (s.input = some .reset →
      t.seqPc = .idle ∧ t.fail = false ∧ t.errCode = 0 ∧ t.errStep = 0 ∧ t.errRw = false) ∧
    ((s.seqPc ≠ .idle ∨ ∀ a b, s.input ≠ some (.start a b)) → s.input ≠ some .reset →
      t.fail = true ∧ t.errCode = s.errCode ∧ t.errStep = s.errStep ∧ t.errRw = s.errRw)) ∧
  ∀ s t : State, s.Inv → step s = .next t → s.fail = false → t.fail = true →
    ∃ (k : Fin 24) (r : Response), s.seqPc = .step k ∧ s.waiting = true ∧
      s.input = some (.response r) ∧ t.errStep = BitVec.ofNat 5 k.val ∧
      (((microprogram k).uop = .openBus ∧ r.ok = false ∧ t.errCode = 1 ∧ t.errRw = false ∧
          t.seqPc = .idle) ∨
       ((microprogram k).uop = .rd ∧ r.ok = false ∧ t.errCode = 2 ∧ t.errRw = false ∧
          t.seqPc = .step 23) ∨
       ((microprogram k).uop = .wrPage ∧ r.ok = false ∧ t.errCode = 2 ∧ t.errRw = true ∧
          t.seqPc = .step 23) ∨
       ((microprogram k).uop = .rd ∧ r.ok = true ∧ r.len ≠ (microprogram k).len ∧ t.errCode = 3 ∧
          t.errRw = false ∧ t.seqPc = .step 23))

/-! ## State, reset, steps (10_state.md, 20_memory.md, 70_reset_and_hazards.md) -/

/-- R37, Table 10-2: what reset leaves, of the values the spec gives. -/
def Obligations.ResetLeavesTable102 : Prop :=
  State.reset.seqPc = .idle ∧ State.reset.waiting = false ∧
  (∀ i : Fin 17, State.reset.captureValid i = false) ∧ State.reset.snapValid = false ∧
  State.reset.fail = false ∧ State.reset.errCode = 0 ∧ State.reset.errStep = 0 ∧
  State.reset.errRw = false ∧ State.reset.connOpen = false ∧ State.reset.reqPort = none ∧
  State.reset.snapshot = none

/-- R250: the reset input does the same from every state, in the middle of a poll too (R251), issues no
request, and touches neither the function units (R254) nor, while no page write is outstanding, what is
known of the device's page (R252). -/
def Obligations.ResetInputRestsFromAnyState : Prop :=
  ∀ s : State, s.input = some .reset → ∃ t : State, step s = .next t ∧
    t.seqPc = .idle ∧ t.waiting = false ∧ (∀ i : Fin 17, t.captureValid i = false) ∧
    t.snapValid = false ∧ t.fail = false ∧ t.errCode = 0 ∧ t.errStep = 0 ∧ t.errRw = false ∧
    t.connOpen = false ∧ t.reqPort = none ∧ t.snapshot = none ∧ t.result = s.result ∧
    ((∀ q, s.reqPort = some q → q.kind ≠ .writeReq) → t.devPage = s.devPage)

/-- A step runs the decoded instruction: at the operation inputs, at the row `seq_pc` names, and at the start
event; around it the step only ends the turn. In IDLE with nothing presented, or with a response, it only ends
the turn. The turn is the model's form (log 1); so is an operation that arrives as bytes the step decodes
(log 4), the block itself decoding none; that a response in IDLE is not taken and not kept is log 2. -/
def Obligations.StepRunsTheDecodedInstruction : Prop :=
  (∀ (s : State) (f : Format) (bytes rest : List Byte) (i : Instr),
    s.input = some (.operate f bytes) → decode f bytes = .ok i rest → step s = endTurnOf (exec i s)) ∧
  (∀ (s : State) (k : Fin 24) (i : Instr), s.seqPc = .step k →
    (s.input = some .quiet ∨ ∃ r, s.input = some (.response r)) →
    decode .urom [BitVec.ofNat 8 k.val] = .ok i [] → step s = endTurnOf (exec i s)) ∧
  (∀ (s : State) (a : BitVec 7) (b : Nat), s.input = some (.start a b) →
    step s = endTurnOf (exec (.seqStart a b) s)) ∧
  (∀ s : State, s.seqPc = .idle → (s.input = some .quiet ∨ ∃ r, s.input = some (.response r)) →
    step s = .next { s with input := none })

/-- The environment's turn (R57; the model's form, log 1): while nothing is presented a step presents the next
draw where it is admissible, and quiet where it is not, so what is presented is admissible; it changes nothing
of the block. -/
def Obligations.EnvironmentMovesChangeNothingElse : Prop :=
  ∀ s : State, s.input = none → ∃ x : Input,
    x = (if admissible (Config.draw s.stream s.tick) then Config.draw s.stream s.tick else .quiet) ∧
    admissible x = true ∧
    step s = .next { s with input := some x, tick := s.tick + 1 }

/-- The invariant holds after reset. -/
def Obligations.InvariantHoldsAfterReset : Prop := State.reset.Inv

/-- The invariant is kept by every step, from every state that has it. Its clause `page` speaks of the model's
field `devPage` (log 10) and rests on there being no second master on the device (log 18, PRESUMED as R260 and
D29 ask) and on no dropped or failed page write landing later (log 24) and no
late response taken for another's answer (log 25).
Its clause `byte_registers` is about the model's cells for the 8-bit registers (log 7). -/
def Obligations.EveryStepKeepsTheInvariant : Prop :=
  ∀ s t : State, s.Inv → step s = .next t → t.Inv

/-- R57: from every state that has the invariant there is a step, whatever the environment presented: the
model never stops. A transport that never answers (R262) is here an endless run that changes nothing, and not a
state without a step (log 14). -/
def Obligations.TheBlockNeverStops : Prop :=
  ∀ s : State, s.Inv → ∃ t : State, step s = .next t

/-- R178: `seq_pc` changes in six ways only. -/
def Obligations.SeqPcChangesInSixWays : Prop :=
  ∀ s t : State, s.Inv → step s = .next t → t.seqPc ≠ s.seqPc →
    (s.seqPc = .idle ∧ t.seqPc = .step 0 ∧ ∃ a b, s.input = some (.start a b)) ∨
    (∃ (k k' : Fin 24) (r : Response), s.seqPc = .step k ∧ k.val ≤ 22 ∧ k'.val = k.val + 1 ∧
      t.seqPc = .step k' ∧ s.waiting = true ∧ s.input = some (.response r) ∧ succeeds k r = true) ∨
    (∃ r : Response, s.seqPc = .step 23 ∧ t.seqPc = .idle ∧ s.waiting = true ∧
      s.input = some (.response r)) ∨
    (∃ (k : Fin 24) (r : Response), s.seqPc = .step k ∧ 1 ≤ k.val ∧ k.val ≤ 22 ∧ t.seqPc = .step 23 ∧
      s.waiting = true ∧ s.input = some (.response r) ∧ succeeds k r = false) ∨
    (∃ r : Response, s.seqPc = .step 0 ∧ t.seqPc = .idle ∧ s.waiting = true ∧
      s.input = some (.response r) ∧ succeeds 0 r = false) ∨
    (t.seqPc = .idle ∧ s.input = some .reset)

/-- R61: only the accesses of Table 20-1, the OPEN and the CLOSE appear on the request port, and only to the
latched address. R5, R68: the command code of a read or a write is one of the twelve of Table 30-3, and
`BB_TEMP_CMD` is a sixth code beside the five others of Table 20-1 (that it is none of those is DEDUCED,
log 9). -/
def Obligations.RequestsAreTable201 : Prop :=
  (∀ (s : State) (q : Request), s.Inv → s.reqPort = some q →
    tableRequest q = true ∧ q.addr = s.devAddrQ ∧ s.waiting = true ∧ s.seqPc ≠ .idle ∧
    (q.kind = .readReq ∨ q.kind = .writeReq → q.cmd ∈
      ([0x79, 0x88, 0x90, 0x8D, 0x8E, 0x8C, 0x89, 0x96, 0x97, 0x20, 0x8B, 0x00] : List Byte))) ∧
  Config.bbTempCmd ∉ ([0x79, 0x00, 0x20, 0x8B, 0x8C] : List Byte)

/-- R183 (H1, H2): while a paged read of a rail is on the request port the device is on that rail's page;
and what is known of the page is changed only by the answer to a page write, by the start of a poll or by
a reset while a page write is outstanding, which leave it unknown. What is known of it is the model's field
(log 10), and that it is the device's page rests on there being no second master on the device (log 18,
PRESUMED as R260 and D29 ask) and on no dropped or failed page write landing later (log 24) and no
late response taken for another's answer (log 25). -/
def Obligations.PagedReadsFollowTheirPageWrite : Prop :=
  (∀ (s : State) (k : Fin 24) (r : Fin 5) (q : Request), s.Inv → s.seqPc = .step k →
    s.reqPort = some q → q.kind = .readReq → 4 + 4 * r.val ≤ k.val → k.val ≤ 6 + 4 * r.val →
    s.devPage = some (pageIdx r) ∧ s.pageState = .selected r) ∧
  (∀ s t : State, s.Inv → step s = .next t → t.devPage ≠ s.devPage →
    (∃ (r : Fin 5) (rsp : Response), s.seqPc = .step (wrPageStep r) ∧ s.waiting = true ∧
      s.input = some (.response rsp) ∧
      t.devPage = (if rsp.ok then some (pageIdx r) else none)) ∨
    (∃ a b, s.seqPc = .idle ∧ s.input = some (.start a b) ∧ t.devPage = none) ∨
    (s.input = some .reset ∧ t.devPage = none ∧ ∃ q, s.reqPort = some q ∧ q.kind = .writeReq))

/-- R24: a capture register changes only when the RD that is its step succeeds, and then it becomes valid;
but for the valid bits, which a start or a reset clears. -/
def Obligations.CapturesAreWrittenByTheirStepOnly : Prop :=
  ∀ (s t : State) (i : Fin 17), s.Inv → step s = .next t →
    t.captures[i.val] = s.captures[i.val] ∨
    (∃ r : Response, s.seqPc = .step (captureStep i) ∧ s.waiting = true ∧
      s.input = some (.response r) ∧ succeeds (captureStep i) r = true ∧ s.captureValid i = false ∧
      t.captureValid i = true) ∨
    (t.captureValid i = false ∧
      ((∃ a b, s.seqPc = .idle ∧ s.input = some (.start a b)) ∨ s.input = some .reset))

/-- R26 and R263 (H6): the latched address and bus index change only at a start taken in IDLE, or at reset. -/
def Obligations.ConfigurationIsLatchedForThePoll : Prop :=
  ∀ s t : State, s.Inv → step s = .next t →
    (t.devAddrQ ≠ s.devAddrQ ∨ t.busIndexQ ≠ s.busIndexQ) →
    (∃ a b, s.seqPc = .idle ∧ s.input = some (.start a b) ∧ t.devAddrQ = a ∧ t.busIndexQ = b) ∨
    s.input = some .reset

/-- R31: the snapshot is readable exactly while `snap_valid = 1`, then it is whole and no failure is
recorded; it becomes readable only when CLOSE is answered with `fail = 0` and all 17 registers valid; and
while it stays readable it does not change. -/
def Obligations.SnapshotsAreAllOrNothing : Prop :=
  (∀ s : State, s.Inv → (s.snapshot.isSome = true ↔ s.snapValid = true)) ∧
  (∀ s t : State, s.Inv → step s = .next t → s.snapValid = false → t.snapValid = true →
    s.seqPc = .step 23 ∧ s.waiting = true ∧ (∃ r, s.input = some (.response r)) ∧ s.fail = false ∧
    t.seqPc = .idle ∧ t.fail = false ∧ ∀ i : Fin 17, t.captureValid i = true) ∧
  (∀ s t : State, s.Inv → step s = .next t → s.snapValid = true →
    (t.snapValid = true ∧ t.snapshot = s.snapshot) ∨
    (t.snapValid = false ∧ ((∃ a b, s.input = some (.start a b)) ∨ s.input = some .reset)))

/-- R28, R29 and R30: the snapshot outputs as functions of the capture registers, while `snap_valid = 1` and
all registers are valid; and the snapshot itself (R31) is the status, the temperature and the five rails in
order, index 0 first. -/
def Obligations.SnapshotOutputsDecodeTheRegisters : Prop :=
  ∀ (s : State) (C : Fin 17 → Word), s.snapValid = true → (∀ i : Fin 17, s.captures[i.val] = ⟨C i, true⟩) →
    s.snapStatus = some (C 0) ∧
    s.snapTemp = some (enc64 (lin11Decode (hiByte (C 1)) (loByte (C 1)))) ∧
    ∃ V I : Fin 5 → Dy,
      (∀ (r : Fin 5) (m v i : Fin 17), m.val = 2 + 3 * r.val → v.val = 3 + 3 * r.val →
        i.val = 4 + 3 * r.val →
        V r = voutDecode (loByte (C m)) (hiByte (C v)) (loByte (C v)) ∧
        I r = lin11Decode (hiByte (C i)) (loByte (C i)) ∧
        s.rail r = some ⟨["12V1", "12V2", "12V3", "5V", "3.3V"].getD r.val "", enc64 (V r), enc64 (I r),
          enc64mul (V r) (I r)⟩) ∧
      s.snapshot = some
        ⟨C 0, enc64 (lin11Decode (hiByte (C 1)) (loByte (C 1))),
          [⟨"12V1", enc64 (V 0), enc64 (I 0), enc64mul (V 0) (I 0)⟩,
           ⟨"12V2", enc64 (V 1), enc64 (I 1), enc64mul (V 1) (I 1)⟩,
           ⟨"12V3", enc64 (V 2), enc64 (I 2), enc64mul (V 2) (I 2)⟩,
           ⟨"5V", enc64 (V 3), enc64 (I 3), enc64mul (V 3) (I 3)⟩,
           ⟨"3.3V", enc64 (V 4), enc64 (I 4), enc64mul (V 4) (I 4)⟩]⟩

/-- R172: at the end of a poll `busy` returns to 0 and exactly one of `snap_valid` and `fail` is 1; while a
poll runs `snap_valid` is 0. -/
def Obligations.PollsEndWithOneOutcome : Prop :=
  (∀ s t : State, s.Inv → step s = .next t → s.busy = true → t.busy = false →
    s.input ≠ some .reset → t.connOpen = false ∧ t.waiting = false ∧ t.snapValid = !t.fail) ∧
  (∀ s : State, s.Inv → s.busy = true → s.snapValid = false)

/-- R178, last sentence: a poll whose every request is answered, in any way, ends after at most 24
responses. -/
def Obligations.AnsweredPollsEnd : Prop :=
  ∀ (s : State) (rs : List Response), s.Inv → 24 ≤ rs.length →
    ∃ t : State, runInputs s (answered rs) = .next t ∧ t.seqPc = .idle

/-- R184, first sentence, with the end of the poll: a poll whose 24 responses let their steps succeed makes
exactly the requests of R184 in that order, ends in IDLE with a readable snapshot, and every capture
register holds what its step's response carried. That the device is left on page 0x11 (R186) is said of the
model's field (log 10) and rests on there being no second master on the device (log 18, PRESUMED)
and on no dropped or failed page write landing later (log 24) and no
late response taken for another's answer (log 25). -/
def Obligations.SuccessfulPollsMakeTheTrace : Prop :=
  ∀ (s : State) (a : BitVec 7) (b : Nat) (rsp : Fin 24 → Response), s.Inv → s.seqPc = .idle →
    (∀ k, succeeds k (rsp k) = true) →
    requestsOf s (.start a b :: answered (List.ofFn rsp)) = pollTrace a b ∧
    ∃ t : State, runInputs s (.start a b :: answered (List.ofFn rsp)) = .next t ∧
      t.seqPc = .idle ∧ t.snapValid = true ∧ t.fail = false ∧ t.connOpen = false ∧
      t.devPage = some 0x11 ∧ t.devAddrQ = a ∧ t.busIndexQ = b ∧
      ∀ i : Fin 17, t.captures[i.val] = ⟨if captureLen i = 2 then (rsp (captureStep i)).data
        else BitVec.ofNat 16 ((rsp (captureStep i)).data.toNat % 256), true⟩

/-- R184, last sentence, with the end of the poll (R181, R227): a poll that fails at step `k` makes the first
`k + 1` requests and then the CLOSE, a poll that fails at step 0 the OPEN alone; it ends in IDLE, the
connection released, the failing step recorded, no snapshot readable. -/
def Obligations.FailedPollsMakeThePartTrace : Prop :=
  ∀ (s : State) (a : BitVec 7) (b : Nat) (rsp : Fin 24 → Response) (k : Fin 24) (last : Response),
    s.Inv → s.seqPc = .idle → (∀ j, j < k → succeeds j (rsp j) = true) → succeeds k (rsp k) = false →
    ∃ rs : List Response,
      rs = (List.ofFn rsp).take (k.val + 1) ++ (if k = 0 then [] else [last]) ∧
      requestsOf s (.start a b :: answered rs) =
        (pollTrace a b).take (k.val + 1) ++
          (if k = 0 then [] else [⟨.closeReq, 0, a, 0, 0, 0⟩]) ∧
      ∃ t : State, runInputs s (.start a b :: answered rs) = .next t ∧
        t.seqPc = .idle ∧ t.connOpen = false ∧ t.fail = true ∧ t.snapValid = false ∧
        t.errStep = BitVec.ofNat 5 k.val ∧ t.snapshot = none

/-- R233 and R238: a step of one sequencer leaves every other as it is, and how many there are; and the
sequencer that moves does what it would do alone. -/
def Obligations.SequencersAreIndependent : Prop :=
  ∀ (sys sys' : System) (j : Nat), sys.stepAt j = .next sys' →
    sys'.sequencers.length = sys.sequencers.length ∧
    (∀ l : Nat, l ≠ j → sys'.sequencers[l]? = sys.sequencers[l]?) ∧
    (∀ s : State, sys.sequencers[j]? = some s →
      ∃ t : State, step s = .next t ∧ sys'.sequencers[j]? = some t)

/-- R34: `page_state` at every value of `seq_pc`. -/
def Obligations.PageStateFollowsSeqPc : Prop :=
  ∀ s : State,
    (∀ (k : Fin 24) (r : Fin 5), s.seqPc = .step k →
      (s.pageState = .selected r ↔
        k.val = 4 + 4 * r.val ∨ k.val = 5 + 4 * r.val ∨ k.val = 6 + 4 * r.val)) ∧
    (s.seqPc = .idle → s.pageState = .idle) ∧
    (∀ k : Fin 24, s.seqPc = .step k → (k.val ∈ [0, 1, 2, 3, 7, 11, 15, 19, 23] ↔ s.pageState = .idle))
end

