-- ==== Sys2Proof/Laws/Codec.lean ====
section
/-!
SUPPORT. The codec's helpers, once each: bytes of a word, fields of a concatenation, byte sequences, digits, and
the one-shift law the CRC laws rest on.
-/

namespace Sys2Proof

open Machine

/-! ## Concatenations -/

/-- A concatenation as a number. -/
theorem toNat_append_eq {n m : Nat} (x : BitVec n) (y : BitVec m) :
    (x ++ y).toNat = x.toNat * 2 ^ m + y.toNat := by
  rw [BitVec.toNat_append, ← Nat.shiftLeft_add_eq_or_of_lt y.isLt, Nat.shiftLeft_eq]

theorem catBytes_toNat (hi lo : Byte) : (catBytes hi lo).toNat = hi.toNat * 256 + lo.toNat :=
  toNat_append_eq hi lo

theorem hiByte_toNat (w : Word) : (hiByte w).toNat = w.toNat / 256 := by
  have := w.isLt
  simp only [hiByte, BitVec.extractLsb'_toNat, Nat.shiftRight_eq_div_pow]
  omega

theorem loByte_toNat (w : Word) : (loByte w).toNat = w.toNat % 256 := by
  simp [loByte]

@[simp] theorem catBytes_hiByte_loByte (w : Word) : catBytes (hiByte w) (loByte w) = w := by
  apply BitVec.eq_of_toNat_eq
  rw [catBytes_toNat, hiByte_toNat, loByte_toNat]
  omega

@[simp] theorem hiByte_catBytes (hi lo : Byte) : hiByte (catBytes hi lo) = hi := by
  have := lo.isLt
  apply BitVec.eq_of_toNat_eq
  rw [hiByte_toNat, catBytes_toNat]
  omega

@[simp] theorem loByte_catBytes (hi lo : Byte) : loByte (catBytes hi lo) = lo := by
  have := lo.isLt
  apply BitVec.eq_of_toNat_eq
  rw [loByte_toNat, catBytes_toNat]
  omega

/-- The high field of a concatenation. -/
theorem extract_append_hi {n m : Nat} (x : BitVec n) (y : BitVec m) : (x ++ y).extractLsb' m n = x := by
  have := y.isLt
  have := x.isLt
  apply BitVec.eq_of_toNat_eq
  rw [BitVec.extractLsb'_toNat, toNat_append_eq, Nat.shiftRight_eq_div_pow,
    Nat.add_comm, Nat.add_mul_div_right _ _ (Nat.two_pow_pos m), Nat.div_eq_of_lt y.isLt, Nat.zero_add,
    Nat.mod_eq_of_lt x.isLt]

/-- The low field of a concatenation. -/
theorem extract_append_lo {n m : Nat} (x : BitVec n) (y : BitVec m) : (x ++ y).extractLsb' 0 m = y := by
  apply BitVec.eq_of_toNat_eq
  rw [BitVec.extractLsb'_toNat, toNat_append_eq, Nat.shiftRight_zero, Nat.mul_add_mod_self_right,
    Nat.mod_eq_of_lt y.isLt]

/-! ## Byte sequences and digits -/

theorem takeSequence_putSequence (bs rest : List Byte) :
    takeSequence (putSequence bs ++ rest) = .ok bs rest := by
  induction bs with
  | nil => cases rest <;> simp [putSequence, takeSequence]
  | cons b bs ih =>
    rw [putSequence, List.cons_append, List.cons_append, takeSequence, ih]
    simp [Sequence.cons]

theorem natOfBytes_bytesOfNat (fuel n : Nat) (h : n ≤ fuel) : natOfBytes (bytesOfNat fuel n) = n := by
  induction fuel generalizing n with
  | zero => simp [bytesOfNat, natOfBytes]; omega
  | succ fuel ih =>
    rw [bytesOfNat]
    split
    · simp [natOfBytes, *]
    · rw [natOfBytes, ih _ (by omega)]; simp; omega

/-! ## The CRC's shift -/

theorem crc8Shift_xor (a b : Byte) : crc8Shift (a ^^^ b) = crc8Shift a ^^^ crc8Shift b := by
  simp only [crc8Shift, BitVec.getLsbD_xor, BitVec.shiftLeft_xor_distrib]
  cases a.getLsbD 7 <;> cases b.getLsbD 7 <;> simp
  · ac_rfl
  · ac_rfl
  · rw [BitVec.xor_assoc, ← BitVec.xor_assoc Config.poly, BitVec.xor_comm Config.poly,
      BitVec.xor_assoc, BitVec.xor_self, BitVec.xor_zero]

/-! ## What an RD stores -/

/-- A two-byte read stores both bytes, a one-byte read its byte (R176, Table 10-1). -/
theorem hiByte_setWidth_loByte (v : Word) : hiByte ((loByte v).setWidth 16) = 0 := by
  have := v.isLt
  apply BitVec.eq_of_toNat_eq
  rw [hiByte_toNat, BitVec.toNat_setWidth, loByte_toNat]
  simp; omega

end Sys2Proof
end

