-- ==== Sys2Proof/Laws/State.lean ====
section
/-!
SUPPORT. For each named update of the state and each field: what the field is afterwards.
-/

namespace Sys2Proof.Machine

@[simp] theorem State.setResult_seqPc (s : State) (r : Result) : (s.setResult r).seqPc = s.seqPc := rfl
@[simp] theorem State.setResult_waiting (s : State) (r : Result) : (s.setResult r).waiting = s.waiting := rfl
@[simp] theorem State.setResult_captures (s : State) (r : Result) : (s.setResult r).captures = s.captures := rfl
@[simp] theorem State.setResult_devAddrQ (s : State) (r : Result) : (s.setResult r).devAddrQ = s.devAddrQ := rfl
@[simp] theorem State.setResult_busIndexQ (s : State) (r : Result) : (s.setResult r).busIndexQ = s.busIndexQ := rfl
@[simp] theorem State.setResult_snapValid (s : State) (r : Result) : (s.setResult r).snapValid = s.snapValid := rfl
@[simp] theorem State.setResult_fail (s : State) (r : Result) : (s.setResult r).fail = s.fail := rfl
@[simp] theorem State.setResult_errCode (s : State) (r : Result) : (s.setResult r).errCode = s.errCode := rfl
@[simp] theorem State.setResult_errStep (s : State) (r : Result) : (s.setResult r).errStep = s.errStep := rfl
@[simp] theorem State.setResult_errRw (s : State) (r : Result) : (s.setResult r).errRw = s.errRw := rfl
@[simp] theorem State.setResult_connOpen (s : State) (r : Result) : (s.setResult r).connOpen = s.connOpen := rfl
@[simp] theorem State.setResult_reqPort (s : State) (r : Result) : (s.setResult r).reqPort = s.reqPort := rfl
@[simp] theorem State.setResult_devPage (s : State) (r : Result) : (s.setResult r).devPage = s.devPage := rfl
@[simp] theorem State.setResult_input (s : State) (r : Result) : (s.setResult r).input = s.input := rfl
@[simp] theorem State.setResult_result (s : State) (r : Result) : (s.setResult r).result = r := rfl
@[simp] theorem State.setResult_stream (s : State) (r : Result) : (s.setResult r).stream = s.stream := rfl
@[simp] theorem State.setResult_tick (s : State) (r : Result) : (s.setResult r).tick = s.tick := rfl

@[simp] theorem State.writeCapture_seqPc (s : State) (i : Fin 17) (v : Word) : (s.writeCapture i v).seqPc = s.seqPc := rfl
@[simp] theorem State.writeCapture_waiting (s : State) (i : Fin 17) (v : Word) : (s.writeCapture i v).waiting = s.waiting := rfl
@[simp] theorem State.writeCapture_captures (s : State) (i : Fin 17) (v : Word) : (s.writeCapture i v).captures = s.captures.set i.val ⟨captureCut i v, true⟩ i.isLt := rfl
@[simp] theorem State.writeCapture_devAddrQ (s : State) (i : Fin 17) (v : Word) : (s.writeCapture i v).devAddrQ = s.devAddrQ := rfl
@[simp] theorem State.writeCapture_busIndexQ (s : State) (i : Fin 17) (v : Word) : (s.writeCapture i v).busIndexQ = s.busIndexQ := rfl
@[simp] theorem State.writeCapture_snapValid (s : State) (i : Fin 17) (v : Word) : (s.writeCapture i v).snapValid = s.snapValid := rfl
@[simp] theorem State.writeCapture_fail (s : State) (i : Fin 17) (v : Word) : (s.writeCapture i v).fail = s.fail := rfl
@[simp] theorem State.writeCapture_errCode (s : State) (i : Fin 17) (v : Word) : (s.writeCapture i v).errCode = s.errCode := rfl
@[simp] theorem State.writeCapture_errStep (s : State) (i : Fin 17) (v : Word) : (s.writeCapture i v).errStep = s.errStep := rfl
@[simp] theorem State.writeCapture_errRw (s : State) (i : Fin 17) (v : Word) : (s.writeCapture i v).errRw = s.errRw := rfl
@[simp] theorem State.writeCapture_connOpen (s : State) (i : Fin 17) (v : Word) : (s.writeCapture i v).connOpen = s.connOpen := rfl
@[simp] theorem State.writeCapture_reqPort (s : State) (i : Fin 17) (v : Word) : (s.writeCapture i v).reqPort = s.reqPort := rfl
@[simp] theorem State.writeCapture_devPage (s : State) (i : Fin 17) (v : Word) : (s.writeCapture i v).devPage = s.devPage := rfl
@[simp] theorem State.writeCapture_input (s : State) (i : Fin 17) (v : Word) : (s.writeCapture i v).input = s.input := rfl
@[simp] theorem State.writeCapture_result (s : State) (i : Fin 17) (v : Word) : (s.writeCapture i v).result = s.result := rfl
@[simp] theorem State.writeCapture_stream (s : State) (i : Fin 17) (v : Word) : (s.writeCapture i v).stream = s.stream := rfl
@[simp] theorem State.writeCapture_tick (s : State) (i : Fin 17) (v : Word) : (s.writeCapture i v).tick = s.tick := rfl

@[simp] theorem State.issue_seqPc (s : State) (r : Row) : (s.issue r).seqPc = s.seqPc := rfl
@[simp] theorem State.issue_waiting (s : State) (r : Row) : (s.issue r).waiting = true := rfl
@[simp] theorem State.issue_captures (s : State) (r : Row) : (s.issue r).captures = s.captures := rfl
@[simp] theorem State.issue_devAddrQ (s : State) (r : Row) : (s.issue r).devAddrQ = s.devAddrQ := rfl
@[simp] theorem State.issue_busIndexQ (s : State) (r : Row) : (s.issue r).busIndexQ = s.busIndexQ := rfl
@[simp] theorem State.issue_snapValid (s : State) (r : Row) : (s.issue r).snapValid = s.snapValid := rfl
@[simp] theorem State.issue_fail (s : State) (r : Row) : (s.issue r).fail = s.fail := rfl
@[simp] theorem State.issue_errCode (s : State) (r : Row) : (s.issue r).errCode = s.errCode := rfl
@[simp] theorem State.issue_errStep (s : State) (r : Row) : (s.issue r).errStep = s.errStep := rfl
@[simp] theorem State.issue_errRw (s : State) (r : Row) : (s.issue r).errRw = s.errRw := rfl
@[simp] theorem State.issue_connOpen (s : State) (r : Row) : (s.issue r).connOpen = s.connOpen := rfl
@[simp] theorem State.issue_reqPort (s : State) (r : Row) : (s.issue r).reqPort = some (s.rowRequest r) := rfl
@[simp] theorem State.issue_devPage (s : State) (r : Row) : (s.issue r).devPage = s.devPage := rfl
@[simp] theorem State.issue_input (s : State) (r : Row) : (s.issue r).input = s.input := rfl
@[simp] theorem State.issue_result (s : State) (r : Row) : (s.issue r).result = s.result := rfl
@[simp] theorem State.issue_stream (s : State) (r : Row) : (s.issue r).stream = s.stream := rfl
@[simp] theorem State.issue_tick (s : State) (r : Row) : (s.issue r).tick = s.tick := rfl

@[simp] theorem State.taken_seqPc (s : State) : (s.taken).seqPc = s.seqPc := rfl
@[simp] theorem State.taken_waiting (s : State) : (s.taken).waiting = false := rfl
@[simp] theorem State.taken_captures (s : State) : (s.taken).captures = s.captures := rfl
@[simp] theorem State.taken_devAddrQ (s : State) : (s.taken).devAddrQ = s.devAddrQ := rfl
@[simp] theorem State.taken_busIndexQ (s : State) : (s.taken).busIndexQ = s.busIndexQ := rfl
@[simp] theorem State.taken_snapValid (s : State) : (s.taken).snapValid = s.snapValid := rfl
@[simp] theorem State.taken_fail (s : State) : (s.taken).fail = s.fail := rfl
@[simp] theorem State.taken_errCode (s : State) : (s.taken).errCode = s.errCode := rfl
@[simp] theorem State.taken_errStep (s : State) : (s.taken).errStep = s.errStep := rfl
@[simp] theorem State.taken_errRw (s : State) : (s.taken).errRw = s.errRw := rfl
@[simp] theorem State.taken_connOpen (s : State) : (s.taken).connOpen = s.connOpen := rfl
@[simp] theorem State.taken_reqPort (s : State) : (s.taken).reqPort = none := rfl
@[simp] theorem State.taken_devPage (s : State) : (s.taken).devPage = s.devPage := rfl
@[simp] theorem State.taken_input (s : State) : (s.taken).input = s.input := rfl
@[simp] theorem State.taken_result (s : State) : (s.taken).result = s.result := rfl
@[simp] theorem State.taken_stream (s : State) : (s.taken).stream = s.stream := rfl
@[simp] theorem State.taken_tick (s : State) : (s.taken).tick = s.tick := rfl

@[simp] theorem State.goto_seqPc (s : State) (pc : SeqPc) : (s.goto pc).seqPc = pc := rfl
@[simp] theorem State.goto_waiting (s : State) (pc : SeqPc) : (s.goto pc).waiting = s.waiting := rfl
@[simp] theorem State.goto_captures (s : State) (pc : SeqPc) : (s.goto pc).captures = s.captures := rfl
@[simp] theorem State.goto_devAddrQ (s : State) (pc : SeqPc) : (s.goto pc).devAddrQ = s.devAddrQ := rfl
@[simp] theorem State.goto_busIndexQ (s : State) (pc : SeqPc) : (s.goto pc).busIndexQ = s.busIndexQ := rfl
@[simp] theorem State.goto_snapValid (s : State) (pc : SeqPc) : (s.goto pc).snapValid = s.snapValid := rfl
@[simp] theorem State.goto_fail (s : State) (pc : SeqPc) : (s.goto pc).fail = s.fail := rfl
@[simp] theorem State.goto_errCode (s : State) (pc : SeqPc) : (s.goto pc).errCode = s.errCode := rfl
@[simp] theorem State.goto_errStep (s : State) (pc : SeqPc) : (s.goto pc).errStep = s.errStep := rfl
@[simp] theorem State.goto_errRw (s : State) (pc : SeqPc) : (s.goto pc).errRw = s.errRw := rfl
@[simp] theorem State.goto_connOpen (s : State) (pc : SeqPc) : (s.goto pc).connOpen = s.connOpen := rfl
@[simp] theorem State.goto_reqPort (s : State) (pc : SeqPc) : (s.goto pc).reqPort = s.reqPort := rfl
@[simp] theorem State.goto_devPage (s : State) (pc : SeqPc) : (s.goto pc).devPage = s.devPage := rfl
@[simp] theorem State.goto_input (s : State) (pc : SeqPc) : (s.goto pc).input = s.input := rfl
@[simp] theorem State.goto_result (s : State) (pc : SeqPc) : (s.goto pc).result = s.result := rfl
@[simp] theorem State.goto_stream (s : State) (pc : SeqPc) : (s.goto pc).stream = s.stream := rfl
@[simp] theorem State.goto_tick (s : State) (pc : SeqPc) : (s.goto pc).tick = s.tick := rfl

@[simp] theorem State.seqAbort_seqPc (s : State) (kind : FailKind) (k : Fin 24) (rw : Bool) : (s.seqAbort kind k rw).seqPc = abortPc k := rfl
@[simp] theorem State.seqAbort_waiting (s : State) (kind : FailKind) (k : Fin 24) (rw : Bool) : (s.seqAbort kind k rw).waiting = false := rfl
@[simp] theorem State.seqAbort_captures (s : State) (kind : FailKind) (k : Fin 24) (rw : Bool) : (s.seqAbort kind k rw).captures = s.captures := rfl
@[simp] theorem State.seqAbort_devAddrQ (s : State) (kind : FailKind) (k : Fin 24) (rw : Bool) : (s.seqAbort kind k rw).devAddrQ = s.devAddrQ := rfl
@[simp] theorem State.seqAbort_busIndexQ (s : State) (kind : FailKind) (k : Fin 24) (rw : Bool) : (s.seqAbort kind k rw).busIndexQ = s.busIndexQ := rfl
@[simp] theorem State.seqAbort_snapValid (s : State) (kind : FailKind) (k : Fin 24) (rw : Bool) : (s.seqAbort kind k rw).snapValid = s.snapValid := rfl
@[simp] theorem State.seqAbort_fail (s : State) (kind : FailKind) (k : Fin 24) (rw : Bool) : (s.seqAbort kind k rw).fail = true := rfl
@[simp] theorem State.seqAbort_errCode (s : State) (kind : FailKind) (k : Fin 24) (rw : Bool) : (s.seqAbort kind k rw).errCode = failCode kind := rfl
@[simp] theorem State.seqAbort_errStep (s : State) (kind : FailKind) (k : Fin 24) (rw : Bool) : (s.seqAbort kind k rw).errStep = BitVec.ofNat 5 k.val := rfl
@[simp] theorem State.seqAbort_errRw (s : State) (kind : FailKind) (k : Fin 24) (rw : Bool) : (s.seqAbort kind k rw).errRw = rw := rfl
@[simp] theorem State.seqAbort_connOpen (s : State) (kind : FailKind) (k : Fin 24) (rw : Bool) : (s.seqAbort kind k rw).connOpen = s.connOpen := rfl
@[simp] theorem State.seqAbort_reqPort (s : State) (kind : FailKind) (k : Fin 24) (rw : Bool) : (s.seqAbort kind k rw).reqPort = none := rfl
@[simp] theorem State.seqAbort_devPage (s : State) (kind : FailKind) (k : Fin 24) (rw : Bool) : (s.seqAbort kind k rw).devPage = s.devPage := rfl
@[simp] theorem State.seqAbort_input (s : State) (kind : FailKind) (k : Fin 24) (rw : Bool) : (s.seqAbort kind k rw).input = s.input := rfl
@[simp] theorem State.seqAbort_result (s : State) (kind : FailKind) (k : Fin 24) (rw : Bool) : (s.seqAbort kind k rw).result = s.result := rfl
@[simp] theorem State.seqAbort_stream (s : State) (kind : FailKind) (k : Fin 24) (rw : Bool) : (s.seqAbort kind k rw).stream = s.stream := rfl
@[simp] theorem State.seqAbort_tick (s : State) (kind : FailKind) (k : Fin 24) (rw : Bool) : (s.seqAbort kind k rw).tick = s.tick := rfl

@[simp] theorem State.seqDone_seqPc (s : State) : (s.seqDone).seqPc = s.seqPc := rfl
@[simp] theorem State.seqDone_waiting (s : State) : (s.seqDone).waiting = s.waiting := rfl
@[simp] theorem State.seqDone_captures (s : State) : (s.seqDone).captures = s.captures := rfl
@[simp] theorem State.seqDone_devAddrQ (s : State) : (s.seqDone).devAddrQ = s.devAddrQ := rfl
@[simp] theorem State.seqDone_busIndexQ (s : State) : (s.seqDone).busIndexQ = s.busIndexQ := rfl
@[simp] theorem State.seqDone_snapValid (s : State) : (s.seqDone).snapValid = true := rfl
@[simp] theorem State.seqDone_fail (s : State) : (s.seqDone).fail = s.fail := rfl
@[simp] theorem State.seqDone_errCode (s : State) : (s.seqDone).errCode = s.errCode := rfl
@[simp] theorem State.seqDone_errStep (s : State) : (s.seqDone).errStep = s.errStep := rfl
@[simp] theorem State.seqDone_errRw (s : State) : (s.seqDone).errRw = s.errRw := rfl
@[simp] theorem State.seqDone_connOpen (s : State) : (s.seqDone).connOpen = s.connOpen := rfl
@[simp] theorem State.seqDone_reqPort (s : State) : (s.seqDone).reqPort = s.reqPort := rfl
@[simp] theorem State.seqDone_devPage (s : State) : (s.seqDone).devPage = s.devPage := rfl
@[simp] theorem State.seqDone_input (s : State) : (s.seqDone).input = s.input := rfl
@[simp] theorem State.seqDone_result (s : State) : (s.seqDone).result = s.result := rfl
@[simp] theorem State.seqDone_stream (s : State) : (s.seqDone).stream = s.stream := rfl
@[simp] theorem State.seqDone_tick (s : State) : (s.seqDone).tick = s.tick := rfl

@[simp] theorem State.setConn_seqPc (s : State) (b : Bool) : (s.setConn b).seqPc = s.seqPc := rfl
@[simp] theorem State.setConn_waiting (s : State) (b : Bool) : (s.setConn b).waiting = s.waiting := rfl
@[simp] theorem State.setConn_captures (s : State) (b : Bool) : (s.setConn b).captures = s.captures := rfl
@[simp] theorem State.setConn_devAddrQ (s : State) (b : Bool) : (s.setConn b).devAddrQ = s.devAddrQ := rfl
@[simp] theorem State.setConn_busIndexQ (s : State) (b : Bool) : (s.setConn b).busIndexQ = s.busIndexQ := rfl
@[simp] theorem State.setConn_snapValid (s : State) (b : Bool) : (s.setConn b).snapValid = s.snapValid := rfl
@[simp] theorem State.setConn_fail (s : State) (b : Bool) : (s.setConn b).fail = s.fail := rfl
@[simp] theorem State.setConn_errCode (s : State) (b : Bool) : (s.setConn b).errCode = s.errCode := rfl
@[simp] theorem State.setConn_errStep (s : State) (b : Bool) : (s.setConn b).errStep = s.errStep := rfl
@[simp] theorem State.setConn_errRw (s : State) (b : Bool) : (s.setConn b).errRw = s.errRw := rfl
@[simp] theorem State.setConn_connOpen (s : State) (b : Bool) : (s.setConn b).connOpen = b := rfl
@[simp] theorem State.setConn_reqPort (s : State) (b : Bool) : (s.setConn b).reqPort = s.reqPort := rfl
@[simp] theorem State.setConn_devPage (s : State) (b : Bool) : (s.setConn b).devPage = s.devPage := rfl
@[simp] theorem State.setConn_input (s : State) (b : Bool) : (s.setConn b).input = s.input := rfl
@[simp] theorem State.setConn_result (s : State) (b : Bool) : (s.setConn b).result = s.result := rfl
@[simp] theorem State.setConn_stream (s : State) (b : Bool) : (s.setConn b).stream = s.stream := rfl
@[simp] theorem State.setConn_tick (s : State) (b : Bool) : (s.setConn b).tick = s.tick := rfl

@[simp] theorem State.setDevPage_seqPc (s : State) (p : Option Byte) : (s.setDevPage p).seqPc = s.seqPc := rfl
@[simp] theorem State.setDevPage_waiting (s : State) (p : Option Byte) : (s.setDevPage p).waiting = s.waiting := rfl
@[simp] theorem State.setDevPage_captures (s : State) (p : Option Byte) : (s.setDevPage p).captures = s.captures := rfl
@[simp] theorem State.setDevPage_devAddrQ (s : State) (p : Option Byte) : (s.setDevPage p).devAddrQ = s.devAddrQ := rfl
@[simp] theorem State.setDevPage_busIndexQ (s : State) (p : Option Byte) : (s.setDevPage p).busIndexQ = s.busIndexQ := rfl
@[simp] theorem State.setDevPage_snapValid (s : State) (p : Option Byte) : (s.setDevPage p).snapValid = s.snapValid := rfl
@[simp] theorem State.setDevPage_fail (s : State) (p : Option Byte) : (s.setDevPage p).fail = s.fail := rfl
@[simp] theorem State.setDevPage_errCode (s : State) (p : Option Byte) : (s.setDevPage p).errCode = s.errCode := rfl
@[simp] theorem State.setDevPage_errStep (s : State) (p : Option Byte) : (s.setDevPage p).errStep = s.errStep := rfl
@[simp] theorem State.setDevPage_errRw (s : State) (p : Option Byte) : (s.setDevPage p).errRw = s.errRw := rfl
@[simp] theorem State.setDevPage_connOpen (s : State) (p : Option Byte) : (s.setDevPage p).connOpen = s.connOpen := rfl
@[simp] theorem State.setDevPage_reqPort (s : State) (p : Option Byte) : (s.setDevPage p).reqPort = s.reqPort := rfl
@[simp] theorem State.setDevPage_devPage (s : State) (p : Option Byte) : (s.setDevPage p).devPage = p := rfl
@[simp] theorem State.setDevPage_input (s : State) (p : Option Byte) : (s.setDevPage p).input = s.input := rfl
@[simp] theorem State.setDevPage_result (s : State) (p : Option Byte) : (s.setDevPage p).result = s.result := rfl
@[simp] theorem State.setDevPage_stream (s : State) (p : Option Byte) : (s.setDevPage p).stream = s.stream := rfl
@[simp] theorem State.setDevPage_tick (s : State) (p : Option Byte) : (s.setDevPage p).tick = s.tick := rfl

@[simp] theorem State.seqStart_seqPc (s : State) (a : BitVec 7) (b : Nat) : (s.seqStart a b).seqPc = .step 0 := rfl
@[simp] theorem State.seqStart_waiting (s : State) (a : BitVec 7) (b : Nat) : (s.seqStart a b).waiting = false := rfl
@[simp] theorem State.seqStart_captures (s : State) (a : BitVec 7) (b : Nat) : (s.seqStart a b).captures = clearValid s.captures := rfl
@[simp] theorem State.seqStart_devAddrQ (s : State) (a : BitVec 7) (b : Nat) : (s.seqStart a b).devAddrQ = a := rfl
@[simp] theorem State.seqStart_busIndexQ (s : State) (a : BitVec 7) (b : Nat) : (s.seqStart a b).busIndexQ = b := rfl
@[simp] theorem State.seqStart_snapValid (s : State) (a : BitVec 7) (b : Nat) : (s.seqStart a b).snapValid = false := rfl
@[simp] theorem State.seqStart_fail (s : State) (a : BitVec 7) (b : Nat) : (s.seqStart a b).fail = false := rfl
@[simp] theorem State.seqStart_errCode (s : State) (a : BitVec 7) (b : Nat) : (s.seqStart a b).errCode = 0 := rfl
@[simp] theorem State.seqStart_errStep (s : State) (a : BitVec 7) (b : Nat) : (s.seqStart a b).errStep = 0 := rfl
@[simp] theorem State.seqStart_errRw (s : State) (a : BitVec 7) (b : Nat) : (s.seqStart a b).errRw = false := rfl
@[simp] theorem State.seqStart_connOpen (s : State) (a : BitVec 7) (b : Nat) : (s.seqStart a b).connOpen = s.connOpen := rfl
@[simp] theorem State.seqStart_reqPort (s : State) (a : BitVec 7) (b : Nat) : (s.seqStart a b).reqPort = s.reqPort := rfl
@[simp] theorem State.seqStart_devPage (s : State) (a : BitVec 7) (b : Nat) : (s.seqStart a b).devPage = none := rfl
@[simp] theorem State.seqStart_input (s : State) (a : BitVec 7) (b : Nat) : (s.seqStart a b).input = s.input := rfl
@[simp] theorem State.seqStart_result (s : State) (a : BitVec 7) (b : Nat) : (s.seqStart a b).result = s.result := rfl
@[simp] theorem State.seqStart_stream (s : State) (a : BitVec 7) (b : Nat) : (s.seqStart a b).stream = s.stream := rfl
@[simp] theorem State.seqStart_tick (s : State) (a : BitVec 7) (b : Nat) : (s.seqStart a b).tick = s.tick := rfl

@[simp] theorem State.resetBlock_seqPc (s : State) : (s.resetBlock).seqPc = .idle := rfl
@[simp] theorem State.resetBlock_waiting (s : State) : (s.resetBlock).waiting = false := rfl
@[simp] theorem State.resetBlock_captures (s : State) : (s.resetBlock).captures = Vector.replicate 17 Capture.reset := rfl
@[simp] theorem State.resetBlock_devAddrQ (s : State) : (s.resetBlock).devAddrQ = 0 := rfl
@[simp] theorem State.resetBlock_busIndexQ (s : State) : (s.resetBlock).busIndexQ = 0 := rfl
@[simp] theorem State.resetBlock_snapValid (s : State) : (s.resetBlock).snapValid = false := rfl
@[simp] theorem State.resetBlock_fail (s : State) : (s.resetBlock).fail = false := rfl
@[simp] theorem State.resetBlock_errCode (s : State) : (s.resetBlock).errCode = 0 := rfl
@[simp] theorem State.resetBlock_errStep (s : State) : (s.resetBlock).errStep = 0 := rfl
@[simp] theorem State.resetBlock_errRw (s : State) : (s.resetBlock).errRw = false := rfl
@[simp] theorem State.resetBlock_connOpen (s : State) : (s.resetBlock).connOpen = false := rfl
@[simp] theorem State.resetBlock_reqPort (s : State) : (s.resetBlock).reqPort = none := rfl
@[simp] theorem State.resetBlock_devPage (s : State) : (s.resetBlock).devPage = s.pageAfterReset := rfl
@[simp] theorem State.resetBlock_input (s : State) : (s.resetBlock).input = s.input := rfl
@[simp] theorem State.resetBlock_result (s : State) : (s.resetBlock).result = s.result := rfl
@[simp] theorem State.resetBlock_stream (s : State) : (s.resetBlock).stream = s.stream := rfl
@[simp] theorem State.resetBlock_tick (s : State) : (s.resetBlock).tick = s.tick := rfl

@[simp] theorem State.endTurn_seqPc (s : State) : (s.endTurn).seqPc = s.seqPc := rfl
@[simp] theorem State.endTurn_waiting (s : State) : (s.endTurn).waiting = s.waiting := rfl
@[simp] theorem State.endTurn_captures (s : State) : (s.endTurn).captures = s.captures := rfl
@[simp] theorem State.endTurn_devAddrQ (s : State) : (s.endTurn).devAddrQ = s.devAddrQ := rfl
@[simp] theorem State.endTurn_busIndexQ (s : State) : (s.endTurn).busIndexQ = s.busIndexQ := rfl
@[simp] theorem State.endTurn_snapValid (s : State) : (s.endTurn).snapValid = s.snapValid := rfl
@[simp] theorem State.endTurn_fail (s : State) : (s.endTurn).fail = s.fail := rfl
@[simp] theorem State.endTurn_errCode (s : State) : (s.endTurn).errCode = s.errCode := rfl
@[simp] theorem State.endTurn_errStep (s : State) : (s.endTurn).errStep = s.errStep := rfl
@[simp] theorem State.endTurn_errRw (s : State) : (s.endTurn).errRw = s.errRw := rfl
@[simp] theorem State.endTurn_connOpen (s : State) : (s.endTurn).connOpen = s.connOpen := rfl
@[simp] theorem State.endTurn_reqPort (s : State) : (s.endTurn).reqPort = s.reqPort := rfl
@[simp] theorem State.endTurn_devPage (s : State) : (s.endTurn).devPage = s.devPage := rfl
@[simp] theorem State.endTurn_input (s : State) : (s.endTurn).input = none := rfl
@[simp] theorem State.endTurn_result (s : State) : (s.endTurn).result = s.result := rfl
@[simp] theorem State.endTurn_stream (s : State) : (s.endTurn).stream = s.stream := rfl
@[simp] theorem State.endTurn_tick (s : State) : (s.endTurn).tick = s.tick := rfl

@[simp] theorem State.sample_seqPc (s : State) (x : Input) : (s.sample x).seqPc = s.seqPc := rfl
@[simp] theorem State.sample_waiting (s : State) (x : Input) : (s.sample x).waiting = s.waiting := rfl
@[simp] theorem State.sample_captures (s : State) (x : Input) : (s.sample x).captures = s.captures := rfl
@[simp] theorem State.sample_devAddrQ (s : State) (x : Input) : (s.sample x).devAddrQ = s.devAddrQ := rfl
@[simp] theorem State.sample_busIndexQ (s : State) (x : Input) : (s.sample x).busIndexQ = s.busIndexQ := rfl
@[simp] theorem State.sample_snapValid (s : State) (x : Input) : (s.sample x).snapValid = s.snapValid := rfl
@[simp] theorem State.sample_fail (s : State) (x : Input) : (s.sample x).fail = s.fail := rfl
@[simp] theorem State.sample_errCode (s : State) (x : Input) : (s.sample x).errCode = s.errCode := rfl
@[simp] theorem State.sample_errStep (s : State) (x : Input) : (s.sample x).errStep = s.errStep := rfl
@[simp] theorem State.sample_errRw (s : State) (x : Input) : (s.sample x).errRw = s.errRw := rfl
@[simp] theorem State.sample_connOpen (s : State) (x : Input) : (s.sample x).connOpen = s.connOpen := rfl
@[simp] theorem State.sample_reqPort (s : State) (x : Input) : (s.sample x).reqPort = s.reqPort := rfl
@[simp] theorem State.sample_devPage (s : State) (x : Input) : (s.sample x).devPage = s.devPage := rfl
@[simp] theorem State.sample_input (s : State) (x : Input) : (s.sample x).input = some (if admissible x then x else .quiet) := rfl
@[simp] theorem State.sample_result (s : State) (x : Input) : (s.sample x).result = s.result := rfl
@[simp] theorem State.sample_stream (s : State) (x : Input) : (s.sample x).stream = s.stream := rfl
@[simp] theorem State.sample_tick (s : State) (x : Input) : (s.sample x).tick = s.tick + 1 := rfl

@[simp] theorem State.present_seqPc (s : State) (x : Input) : (s.present x).seqPc = s.seqPc := rfl
@[simp] theorem State.present_waiting (s : State) (x : Input) : (s.present x).waiting = s.waiting := rfl
@[simp] theorem State.present_captures (s : State) (x : Input) : (s.present x).captures = s.captures := rfl
@[simp] theorem State.present_devAddrQ (s : State) (x : Input) : (s.present x).devAddrQ = s.devAddrQ := rfl
@[simp] theorem State.present_busIndexQ (s : State) (x : Input) : (s.present x).busIndexQ = s.busIndexQ := rfl
@[simp] theorem State.present_snapValid (s : State) (x : Input) : (s.present x).snapValid = s.snapValid := rfl
@[simp] theorem State.present_fail (s : State) (x : Input) : (s.present x).fail = s.fail := rfl
@[simp] theorem State.present_errCode (s : State) (x : Input) : (s.present x).errCode = s.errCode := rfl
@[simp] theorem State.present_errStep (s : State) (x : Input) : (s.present x).errStep = s.errStep := rfl
@[simp] theorem State.present_errRw (s : State) (x : Input) : (s.present x).errRw = s.errRw := rfl
@[simp] theorem State.present_connOpen (s : State) (x : Input) : (s.present x).connOpen = s.connOpen := rfl
@[simp] theorem State.present_reqPort (s : State) (x : Input) : (s.present x).reqPort = s.reqPort := rfl
@[simp] theorem State.present_devPage (s : State) (x : Input) : (s.present x).devPage = s.devPage := rfl
@[simp] theorem State.present_input (s : State) (x : Input) : (s.present x).input = some x := rfl
@[simp] theorem State.present_result (s : State) (x : Input) : (s.present x).result = s.result := rfl
@[simp] theorem State.present_stream (s : State) (x : Input) : (s.present x).stream = s.stream := rfl
@[simp] theorem State.present_tick (s : State) (x : Input) : (s.present x).tick = s.tick := rfl

end Sys2Proof.Machine
end

