-- ==== Sys2Proof/Laws/Ops.lean ====
section
/-!
SUPPORT. For each shared operation, once: what it can do. Capture registers, the constant tables, the two
halves of a step, the meanings of the microprogram's rows, the step.
-/

namespace Sys2Proof.Machine

/-! ## Tables -/

theorem microprogram_uop_openBus (k : Fin 24) : (microprogram k).uop = .openBus ↔ k = 0 := by
  revert k; decide

theorem microprogram_uop_closeBus (k : Fin 24) : (microprogram k).uop = .closeBus ↔ k = 23 := by
  revert k; decide

theorem microprogram_uop_rd (k : Fin 24) : (microprogram k).uop = .rd ↔ ∃ d, captureStep d = k := by
  revert k; decide

theorem microprogram_uop_wrPage (k : Fin 24) :
    (microprogram k).uop = .wrPage ↔ ∃ r, wrPageStep r = k := by
  revert k; decide

theorem microprogram_captureStep (d : Fin 17) :
    microprogram (captureStep d) = Row.rdRow (captureCmd d) (captureLen d) d := by
  fin_cases d <;> rfl

theorem microprogram_wrPageStep (r : Fin 5) : microprogram (wrPageStep r) = Row.wrPageRow r := by
  fin_cases r <;> rfl

theorem captureStep_injective : ∀ i j : Fin 17, captureStep i = captureStep j → i = j := by decide

theorem captureStep_bounds (d : Fin 17) : 1 ≤ (captureStep d).val ∧ (captureStep d).val ≤ 22 := by
  revert d; decide

theorem captureLen_eq_two_or_one (d : Fin 17) :
    (captureLen d = 2 ∧ captureWidth d = 16) ∨ (captureLen d = 1 ∧ captureWidth d = 8) := by
  revert d; decide

/-- The seven values the open parameter can have (log 9). -/
theorem bbTempCmd_cases : Config.bbTempCmd = 0x8D ∨ Config.bbTempCmd = 0x8E ∨ Config.bbTempCmd = 0x88 ∨
    Config.bbTempCmd = 0x90 ∨ Config.bbTempCmd = 0x89 ∨ Config.bbTempCmd = 0x96 ∨
    Config.bbTempCmd = 0x97 := by
  unfold Config.bbTempCmd
  cases Config.tempCmd <;> decide

/-! ## Capture registers -/

theorem State.captureValid_writeCapture (s : State) (i j : Fin 17) (v : Word) :
    (s.writeCapture i v).captureValid j = if i = j then true else s.captureValid j := by
  simp only [State.captureValid, State.writeCapture_captures, Vector.getElem_set, Fin.ext_iff]
  split <;> rfl

theorem State.capture?_writeCapture_same (s : State) (i : Fin 17) (v : Word) :
    (s.writeCapture i v).capture? i = some (captureCut i v) := by
  simp [State.capture?, State.captureValid]

theorem State.captures_writeCapture_other (s : State) (i j : Fin 17) (v : Word) (h : i ≠ j) :
    (s.writeCapture i v).captures[j.val] = s.captures[j.val] := by
  simp only [State.writeCapture_captures]
  exact Vector.getElem_set_ne (by omega) (by omega) (by simpa [Fin.ext_iff] using h)

theorem clearValid_bits (cs : Vector Capture 17) (i : Fin 17) :
    ((clearValid cs)[i.val]).bits = (cs[i.val]).bits := by
  simp [clearValid]

theorem clearValid_valid (cs : Vector Capture 17) (i : Fin 17) :
    ((clearValid cs)[i.val]).valid = false := by
  simp [clearValid]

/-! ## The two halves of a step -/

theorem nextPc_of_lt (k : Fin 24) (h : k.val + 1 < 24) : nextPc k = .step ⟨k.val + 1, h⟩ := dif_pos h

theorem nextPc_captureStep (d : Fin 17) :
    nextPc (captureStep d) = .step (Fin.ofNat 24 ((captureStep d).val + 1)) := by
  revert d; decide

theorem nextPc_wrPageStep (r : Fin 5) :
    nextPc (wrPageStep r) = .step (Fin.ofNat 24 (4 + 4 * r.val)) := by
  revert r; decide

/-- What an RD stores (R176): the response's data, or its low byte. -/
theorem captureCut_readValue (d : Fin 17) (v : Word) :
    captureCut d (readValue (captureLen d) v) =
      if captureLen d = 2 then v else BitVec.ofNat 16 (v.toNat % 256) := by
  rcases captureLen_eq_two_or_one d with ⟨hl, hw⟩ | ⟨hl, hw⟩
  · simp [captureCut, readValue, hl, hw]
  · apply BitVec.eq_of_toNat_eq
    simp [captureCut, readValue, hl, hw, loByte_toNat]

/-- A micro-operation with the operands of the row at hand runs that row. -/
theorem State.runRowIf_eq (s : State) (k : Fin 24) (h : s.seqPc = .step k) :
    s.runRowIf (microprogram k) = .next (s.transition k (microprogram k)) := by
  simp [State.runRowIf, h]

theorem State.transition_issue (s : State) (k : Fin 24) (r : Row) (h : s.waiting = false) :
    s.transition k r = s.issue r := by
  simp [State.transition, h]

theorem State.transition_wait (s : State) (k : Fin 24) (r : Row) (h : s.waiting = true)
    (hr : s.response? = none) : s.transition k r = s := by
  simp [State.transition, h, hr]

theorem State.transition_respond (s : State) (k : Fin 24) (r : Row) (rsp : Response)
    (h : s.waiting = true) (hr : s.input = some (.response rsp)) :
    s.transition k r = s.respond k r rsp := by
  simp [State.transition, State.response?, h, hr]

/-- A transition is an issue, a wait or a response, and nothing else. -/
theorem State.transition_cases (s : State) (k : Fin 24) (r : Row) :
    (s.waiting = false ∧ s.transition k r = s.issue r) ∨
    (s.waiting = true ∧ s.transition k r = s) ∨
    (s.waiting = true ∧ ∃ rsp, s.input = some (.response rsp) ∧
      s.transition k r = s.respond k r rsp) := by
  cases hw : s.waiting
  · exact .inl ⟨rfl, s.transition_issue k r hw⟩
  · cases hr : s.response? with
    | none => exact .inr (.inl ⟨rfl, s.transition_wait k r hw hr⟩)
    | some rsp =>
      have hi : s.input = some (.response rsp) := by
        revert hr; unfold State.response?; split <;> simp_all
      exact .inr (.inr ⟨rfl, rsp, hi, s.transition_respond k r rsp hw hi⟩)

/-! ## The microprogram's rows and the step -/

theorem exec_uromInstr (k : Fin 24) (s : State) : exec (uromInstr k) s = s.runRow k := by
  fin_cases k <;> rfl

theorem decode_urom (k : Fin 24) :
    decode .urom [BitVec.ofNat 8 k.val] = .ok (uromInstr k) [] := by
  fin_cases k <;> rfl

/-- Everything a function-unit operation, a format or a constant can do. -/
theorem exec_functionUnit (i : Instr) (s t : State) (h : isSequencerOp i = false)
    (ht : exec i s = .next t) : ∃ r, t = s.setResult r := by
  cases i <;> simp only [isSequencerOp, Bool.true_eq_false] at h <;>
    first
    | exact ⟨_, (Host.Outcome.next.inj ht).symm⟩
    | (simp only [exec, execSignRec, execF64Mul] at ht
       split at ht
       · exact ⟨_, (Host.Outcome.next.inj ht).symm⟩
       · cases ht)

/-- The sequencer's part of a turn answers always. -/
theorem sequencerTurn_eq (s : State) :
    sequencerTurn s = match s.seqPc with
      | .step k => .next (s.transition k (microprogram k))
      | .idle => .next s := by
  unfold sequencerTurn State.fetchRow
  cases h : s.seqPc with
  | idle => rfl
  | step k => simp [exec_uromInstr, State.runRow, h]

/-- Everything a step can do when it answers a next state: the environment's turn, reset, a start, an
operation, or the sequencer's part. -/
theorem step_cases (s t : State) (h : step s = .next t) :
    (s.input = none ∧ t = s.sample (Config.draw s.stream s.tick)) ∨
    (s.input = some .reset ∧ t = s.resetBlock.endTurn) ∨
    (∃ a b, s.input = some (.start a b) ∧
      ((s.seqPc = .idle ∧ t = (s.seqStart a b).endTurn) ∨ (s.seqPc ≠ .idle ∧ t = s.endTurn))) ∨
    (∃ f bytes i rest u, s.input = some (.operate f bytes) ∧ decode f bytes = .ok i rest ∧
      exec i s = .next u ∧ t = u.endTurn) ∨
    ((s.input = some .quiet ∨ ∃ r, s.input = some (.response r)) ∧
      ((s.seqPc = .idle ∧ t = s.endTurn) ∨
       (∃ k, s.seqPc = .step k ∧ t = (s.transition k (microprogram k)).endTurn))) := by
  have hseq : ∀ x, endTurnOf (sequencerTurn s) = .next x →
      (s.seqPc = .idle ∧ x = s.endTurn) ∨
      (∃ k, s.seqPc = .step k ∧ x = (s.transition k (microprogram k)).endTurn) := by
    intro x hx
    rw [sequencerTurn_eq] at hx
    cases hp : s.seqPc with
    | idle => simp only [hp, endTurnOf, Host.Outcome.next.injEq] at hx; exact .inl ⟨rfl, hx.symm⟩
    | step k => simp only [hp, endTurnOf, Host.Outcome.next.injEq] at hx; exact .inr ⟨k, rfl, hx.symm⟩
  unfold step at h
  cases hi : s.input with
  | none => rw [hi] at h; exact .inl ⟨rfl, (Host.Outcome.next.inj h).symm⟩
  | some x =>
    rw [hi] at h
    cases x with
    | quiet => exact .inr (.inr (.inr (.inr ⟨.inl rfl, hseq t h⟩)))
    | reset => exact .inr (.inl ⟨rfl, (Host.Outcome.next.inj h).symm⟩)
    | start a b =>
      refine .inr (.inr (.inl ⟨a, b, rfl, ?_⟩))
      by_cases hp : s.seqPc = .idle
      · simp only [blockTurn, exec, execSeqStart, hp, if_true, endTurnOf,
          Host.Outcome.next.injEq] at h
        exact .inl ⟨hp, h.symm⟩
      · simp only [blockTurn, exec, execSeqStart, hp, if_false, endTurnOf,
          Host.Outcome.next.injEq] at h
        exact .inr ⟨hp, h.symm⟩
    | response r => exact .inr (.inr (.inr (.inr ⟨.inr ⟨r, rfl⟩, hseq t h⟩)))
    | operate f bytes =>
      refine .inr (.inr (.inr (.inl ?_)))
      simp only [blockTurn] at h
      cases hd : decode f bytes with
      | bad r => simp [hd, endTurnOf] at h
      | ok i rest =>
        simp only [hd] at h
        cases he : exec i s with
        | fault r => simp [he, endTurnOf] at h
        | refused r => simp [he, endTurnOf] at h
        | next u =>
          simp only [he, endTurnOf, Host.Outcome.next.injEq] at h
          exact ⟨f, bytes, i, rest, u, rfl, hd, he, h.symm⟩

end Sys2Proof.Machine
end

