-- ==== Sys2Proof/Laws/PerInstr.lean ====
section
/-!
SUPPORT. Statements about every instruction, one lemma for each constructor.
-/

namespace Sys2Proof.Laws

/-- The byte opcode_table.json fixes at the head of a row's word (its `match`); the formats fix none. -/
def tableByte : Instr → Option Byte
  | .pecStep _ _ => some 0x01
  | .pecChain _ => some 0x02
  | .pecCheck _ _ => some 0x03
  | .signRec _ _ => some 0x04
  | .lin11Dec _ _ => some 0x05
  | .voutDec _ _ _ => some 0x06
  | .f64Mul _ _ => some 0x07
  | .pageBuild _ _ _ => some 0x08
  | .seqStart _ _ => some 0x09
  | .openBus => some 0x0A
  | .rd _ _ _ => some 0x0B
  | .wrPage _ => some 0x0C
  | .closeBus => some 0x0D
  | .seqDone => some 0x0E
  | .seqAbort _ _ _ => some 0x0F
  | .fmtLin11 _ _ => none
  | .fmtVmode _ _ => none
  | .fmtVout16 _ => none
  | .fmtPagebuf _ _ => none
  | .fmtPecmsg _ _ _ => none
  | .fmtStatus16 _ => none
  | .fmtF64 _ _ _ => none
  | .cmdStatusWord => some 0x79
  | .cmdReadVin => some 0x88
  | .cmdReadFanSpeed1 => some 0x90
  | .cmdReadTemperature1 => some 0x8D
  | .cmdReadTemperature2 => some 0x8E
  | .cmdReadIout => some 0x8C
  | .cmdReadIin => some 0x89
  | .cmdReadPout => some 0x96
  | .cmdReadPin => some 0x97
  | .cmdVoutMode => some 0x20
  | .cmdReadVout => some 0x8B
  | .cmdPage => some 0x00
  | .page12V1 => some 0x00
  | .page12V2 => some 0x01
  | .page12V3 => some 0x02
  | .page5V => some 0x10
  | .page3V3 => some 0x11
  | .urom00 => some 0x00
  | .urom01 => some 0x01
  | .urom02 => some 0x02
  | .urom03 => some 0x03
  | .urom04 => some 0x04
  | .urom05 => some 0x05
  | .urom06 => some 0x06
  | .urom07 => some 0x07
  | .urom08 => some 0x08
  | .urom09 => some 0x09
  | .urom10 => some 0x0A
  | .urom11 => some 0x0B
  | .urom12 => some 0x0C
  | .urom13 => some 0x0D
  | .urom14 => some 0x0E
  | .urom15 => some 0x0F
  | .urom16 => some 0x10
  | .urom17 => some 0x11
  | .urom18 => some 0x12
  | .urom19 => some 0x13
  | .urom20 => some 0x14
  | .urom21 => some 0x15
  | .urom22 => some 0x16
  | .urom23 => some 0x17

/-- The encoding begins with the byte the table fixes for the row. -/
def TableWord.Statement (i : Instr) : Prop := ∀ b, tableByte i = some b → (encode i).head? = some b

theorem TableWord.pecStep (prev nxt : Byte) : TableWord.Statement (.pecStep prev nxt) := fun _ h => h
theorem TableWord.pecChain (bytes : List Byte) : TableWord.Statement (.pecChain bytes) := fun _ h => h
theorem TableWord.pecCheck (bytes : List Byte) (pec : Byte) : TableWord.Statement (.pecCheck bytes pec) := fun _ h => h
theorem TableWord.signRec (w : SignWidth) (raw : BitVec 11) : TableWord.Statement (.signRec w raw) := fun _ h => h
theorem TableWord.lin11Dec (hi lo : Byte) : TableWord.Statement (.lin11Dec hi lo) := fun _ h => h
theorem TableWord.voutDec (mode hi lo : Byte) : TableWord.Statement (.voutDec mode hi lo) := fun _ h => h
theorem TableWord.f64Mul (a b : Dy) : TableWord.Statement (.f64Mul a b) := fun _ h => h
theorem TableWord.pageBuild (addr : BitVec 7) (cmd page : Byte) : TableWord.Statement (.pageBuild addr cmd page) := fun _ h => h
theorem TableWord.seqStart (devAddr : BitVec 7) (busIndex : Nat) : TableWord.Statement (.seqStart devAddr busIndex) := fun _ h => h
theorem TableWord.openBus : TableWord.Statement (.openBus) := fun _ h => h
theorem TableWord.rd (cmd : Byte) (len : BitVec 2) (dst : Fin 17) : TableWord.Statement (.rd cmd len dst) := fun _ h => h
theorem TableWord.wrPage (rail : Fin 5) : TableWord.Statement (.wrPage rail) := fun _ h => h
theorem TableWord.closeBus : TableWord.Statement (.closeBus) := fun _ h => h
theorem TableWord.seqDone : TableWord.Statement (.seqDone) := fun _ h => h
theorem TableWord.seqAbort (kind : FailKind) (step : Fin 24) (rw : Bool) : TableWord.Statement (.seqAbort kind step rw) := fun _ h => h
theorem TableWord.fmtLin11 (e : BitVec 5) (m : BitVec 11) : TableWord.Statement (.fmtLin11 e m) := nofun
theorem TableWord.fmtVmode (x : BitVec 3) (e : BitVec 5) : TableWord.Statement (.fmtVmode x e) := nofun
theorem TableWord.fmtVout16 (m : Word) : TableWord.Statement (.fmtVout16 m) := nofun
theorem TableWord.fmtPagebuf (c p : Byte) : TableWord.Statement (.fmtPagebuf c p) := nofun
theorem TableWord.fmtPecmsg (a : BitVec 7) (k p : Byte) : TableWord.Statement (.fmtPecmsg a k p) := nofun
theorem TableWord.fmtStatus16 (w : Word) : TableWord.Statement (.fmtStatus16 w) := nofun
theorem TableWord.fmtF64 (sign : BitVec 1) (e : BitVec 11) (f : BitVec 52) : TableWord.Statement (.fmtF64 sign e f) := nofun
theorem TableWord.cmdStatusWord : TableWord.Statement (.cmdStatusWord) := fun _ h => h
theorem TableWord.cmdReadVin : TableWord.Statement (.cmdReadVin) := fun _ h => h
theorem TableWord.cmdReadFanSpeed1 : TableWord.Statement (.cmdReadFanSpeed1) := fun _ h => h
theorem TableWord.cmdReadTemperature1 : TableWord.Statement (.cmdReadTemperature1) := fun _ h => h
theorem TableWord.cmdReadTemperature2 : TableWord.Statement (.cmdReadTemperature2) := fun _ h => h
theorem TableWord.cmdReadIout : TableWord.Statement (.cmdReadIout) := fun _ h => h
theorem TableWord.cmdReadIin : TableWord.Statement (.cmdReadIin) := fun _ h => h
theorem TableWord.cmdReadPout : TableWord.Statement (.cmdReadPout) := fun _ h => h
theorem TableWord.cmdReadPin : TableWord.Statement (.cmdReadPin) := fun _ h => h
theorem TableWord.cmdVoutMode : TableWord.Statement (.cmdVoutMode) := fun _ h => h
theorem TableWord.cmdReadVout : TableWord.Statement (.cmdReadVout) := fun _ h => h
theorem TableWord.cmdPage : TableWord.Statement (.cmdPage) := fun _ h => h
theorem TableWord.page12V1 : TableWord.Statement (.page12V1) := fun _ h => h
theorem TableWord.page12V2 : TableWord.Statement (.page12V2) := fun _ h => h
theorem TableWord.page12V3 : TableWord.Statement (.page12V3) := fun _ h => h
theorem TableWord.page5V : TableWord.Statement (.page5V) := fun _ h => h
theorem TableWord.page3V3 : TableWord.Statement (.page3V3) := fun _ h => h
theorem TableWord.urom00 : TableWord.Statement (.urom00) := fun _ h => h
theorem TableWord.urom01 : TableWord.Statement (.urom01) := fun _ h => h
theorem TableWord.urom02 : TableWord.Statement (.urom02) := fun _ h => h
theorem TableWord.urom03 : TableWord.Statement (.urom03) := fun _ h => h
theorem TableWord.urom04 : TableWord.Statement (.urom04) := fun _ h => h
theorem TableWord.urom05 : TableWord.Statement (.urom05) := fun _ h => h
theorem TableWord.urom06 : TableWord.Statement (.urom06) := fun _ h => h
theorem TableWord.urom07 : TableWord.Statement (.urom07) := fun _ h => h
theorem TableWord.urom08 : TableWord.Statement (.urom08) := fun _ h => h
theorem TableWord.urom09 : TableWord.Statement (.urom09) := fun _ h => h
theorem TableWord.urom10 : TableWord.Statement (.urom10) := fun _ h => h
theorem TableWord.urom11 : TableWord.Statement (.urom11) := fun _ h => h
theorem TableWord.urom12 : TableWord.Statement (.urom12) := fun _ h => h
theorem TableWord.urom13 : TableWord.Statement (.urom13) := fun _ h => h
theorem TableWord.urom14 : TableWord.Statement (.urom14) := fun _ h => h
theorem TableWord.urom15 : TableWord.Statement (.urom15) := fun _ h => h
theorem TableWord.urom16 : TableWord.Statement (.urom16) := fun _ h => h
theorem TableWord.urom17 : TableWord.Statement (.urom17) := fun _ h => h
theorem TableWord.urom18 : TableWord.Statement (.urom18) := fun _ h => h
theorem TableWord.urom19 : TableWord.Statement (.urom19) := fun _ h => h
theorem TableWord.urom20 : TableWord.Statement (.urom20) := fun _ h => h
theorem TableWord.urom21 : TableWord.Statement (.urom21) := fun _ h => h
theorem TableWord.urom22 : TableWord.Statement (.urom22) := fun _ h => h
theorem TableWord.urom23 : TableWord.Statement (.urom23) := fun _ h => h
end Sys2Proof.Laws
end

