-- ==== Sys2Proof/Tests/Slice0.lean ====
section
/-!
SUPPORT. Tests: ill-formed terms refused, words written out from the spec's encodings, vectors of
spec/95_test_vectors.md, and for every statement with hypotheses a state and operands that meet them.
-/

namespace Sys2Proof.Tests

open Sys2Proof Sys2Proof.Machine

/-! ## Small states -/

/-- The page a poll has left the device on at step `k`, none before the first answered page write. -/
def pageAt (k : Fin 24) : Option Byte :=
  if k.val < 4 then none
  else if k.val < 8 then some 0x00
  else if k.val < 12 then some 0x01
  else if k.val < 16 then some 0x02
  else if k.val < 20 then some 0x10
  else some 0x11

/-- A poll of device 0x58 on bus 1 that is going well, at step `k`, with nothing on the request port. -/
def quietPoll (k : Fin 24) : State :=
  { State.reset with
    seqPc := .step k
    captures := Vector.ofFn fun i => ⟨0, decide (captureStep i < k)⟩
    devAddrQ := 0x58
    busIndexQ := 1
    connOpen := decide (k ≠ 0)
    devPage := pageAt k }

/-- The same with or without the step's request outstanding, and with the environment's move. -/
def poll (k : Fin 24) (w : Bool) (x : Option Input) : State :=
  { quietPoll k with
    waiting := w
    reqPort := if w then some ((quietPoll k).rowRequest (microprogram k)) else none
    input := x }

/-- In IDLE with the move `x`, nothing ever polled. -/
def idle (x : Option Input) : State := { State.reset with input := x }

/-- The state of a poll that failed reading at step 9 and waits for the answer to its CLOSE. -/
def failing (x : Option Input) : State :=
  { poll 23 true x with
    captures := Vector.ofFn fun i => ⟨0, decide (captureStep i < 9)⟩
    devPage := some 0x01
    fail := true
    errCode := 2
    errStep := 9 }

/-- The state after that poll, in IDLE. -/
def failed (x : Option Input) : State :=
  { failing x with seqPc := .idle, waiting := false, reqPort := none, connOpen := false }

/-- The capture registers at the end of program P2 of spec/95_test_vectors.md. -/
def p2Words : List Word :=
  [0x0802, 0xE258, 0x0017, 0x181A, 0xD320, 0x0017, 0x17F0, 0xF019, 0x0017, 0x1800, 0x0000,
   0x0016, 0x1429, 0xBB9C, 0x00F7, 0x069A, 0xFFFF]

/-- The end state of program P2, with the move `x`. -/
def done (x : Option Input) : State :=
  { State.reset with
    captures := Vector.ofFn fun i => ⟨p2Words.getD i.val 0, true⟩
    devAddrQ := 0x58
    busIndexQ := 1
    snapValid := true
    devPage := some 0x11
    input := x }

/-- A response that succeeds with `len` bytes. -/
def good (len : BitVec 2) (data : Word) : Response := ⟨true, len, data⟩

/-- A failed response. -/
def bad : Response := ⟨false, 2, 0x1234⟩

/-- The result wires after an outcome. -/
def resultOf : Host.Outcome State Fault Refusal → Option Result
  | .next s => some s.result
  | .fault _ => none
  | .refused _ => none

/-- The request port after an outcome. -/
def requestOf : Host.Outcome State Fault Refusal → Option Request
  | .next s => s.reqPort
  | .fault _ => none
  | .refused _ => none

/-- Whether an outcome is a next state with the property `p`. -/
def nextWith (p : State → Bool) : Host.Outcome State Fault Refusal → Bool
  | .next s => p s
  | .fault _ => false
  | .refused _ => false

/-- The five failure outputs and where control is. -/
def failure (s : State) : Bool × BitVec 2 × BitVec 5 × Bool × SeqPc :=
  (s.fail, s.errCode, s.errStep, s.errRw, s.seqPc)

/-! ## Ill-formed terms are refused -/

theorem test_wf_signRec_five : (Instr.signRec .five 32).wf = false := by decide

theorem test_wf_signRec_ok : (Instr.signRec .five 31).wf = true := by decide

theorem test_wf_f64Mul_voltage : (Instr.f64Mul ⟨-1, 0⟩ ⟨1, 0⟩).wf = false := by decide

theorem test_wf_f64Mul_current : (Instr.f64Mul ⟨1, 0⟩ ⟨1024, 0⟩).wf = false := by decide

theorem test_wf_f64Mul_ok : (Instr.f64Mul ⟨65535, 15⟩ ⟨-1024, -16⟩).wf = true := by decide

theorem test_wf_rd_length : (Instr.rd 0x20 2 2).wf = false := by decide

theorem test_wf_rd_command : (Instr.rd 0x8C 2 3).wf = false := by decide

theorem test_wf_rd_ok : (Instr.rd 0x8B 2 3).wf = true := by decide

theorem test_wf_seqAbort_open_elsewhere : (Instr.seqAbort .transportOpen 1 false).wf = false := by decide

theorem test_wf_seqAbort_write_as_read : (Instr.seqAbort .transportIO 3 false).wf = false := by decide

theorem test_wf_seqAbort_read_as_write : (Instr.seqAbort .transportIO 1 true).wf = false := by decide

theorem test_wf_seqAbort_decode_of_write : (Instr.seqAbort .decodeFailure 3 false).wf = false := by decide

theorem test_wf_seqAbort_ok : (Instr.seqAbort .transportIO 3 true).wf = true := by decide

/-! ## Words written out from the encodings -/

/-- Table 30-5: the ordinal of each function-unit operation, then its operands. -/
theorem test_decode_functionUnits :
    decode .op [0x01, 0x00, 0xB0] = .ok (.pecStep 0x00 0xB0) [] ∧
    decode .op [0x02, 0x01, 0xB0, 0x01, 0x10, 0x00] = .ok (.pecChain [0xB0, 0x10]) [] ∧
    decode .op [0x03, 0x9A, 0x01, 0xB0, 0x00, 0x77] = .ok (.pecCheck [0xB0] 0x9A) [0x77] ∧
    decode .op [0x04, 0x00, 0x16, 0x00] = .ok (.signRec .five 0b10110) [] ∧
    decode .op [0x04, 0x01, 0x01, 0x04] = .ok (.signRec .eleven 0b10000000001) [] ∧
    decode .op [0x05, 0xB0, 0x64] = .ok (.lin11Dec 0xB0 0x64) [] ∧
    decode .op [0x06, 0x17, 0x18, 0x1A] = .ok (.voutDec 0x17 0x18 0x1A) [] ∧
    decode .op [0x07, 0x17, 0x18, 0x00, 0xD3, 0x20] = .ok (.f64Mul ⟨6144, -9⟩ ⟨800, -6⟩) [] ∧
    decode .op [0x08, 0x58, 0x00, 0x10] = .ok (.pageBuild 0x58 0x00 0x10) [] := by
  decide

/-- Table 30-5: the micro-operations. -/
theorem test_decode_microOperations :
    decode .op [0x09, 0x58, 0x01, 0x02, 0x01, 0x01, 0x00] = .ok (.seqStart 0x58 258) [] ∧
    decode .op [0x0A] = .ok .openBus [] ∧
    decode .op [0x0B, 0x03] = .ok (.rd 0x8B 2 3) [] ∧
    decode .op [0x0C, 0x04] = .ok (.wrPage 4) [] ∧
    decode .op [0x0D] = .ok .closeBus [] ∧
    decode .op [0x0E] = .ok .seqDone [] ∧
    decode .op [0x0F, 0x01, 0x03, 0x01] = .ok (.seqAbort .transportIO 3 true) [] := by
  decide

/-- The register of the temperature is read with `BB_TEMP_CMD`, whatever it is. -/
theorem test_decode_rd_temperature :
    decode .op [0x0B, 0x01] = .ok (.rd Config.bbTempCmd 2 1) [] := rfl

/-- R81 to R87, bit by bit: LIN11 0b10110_00001100100, VMODE 0b111_10111, PAGEBUF cat(0x9A, 0x10), PECMSG
0b1011000_0, 0x00, 0x10; binary64 of -0.5 is 1, 0x3FE, 0. -/
theorem test_decode_formats :
    decode .lin11 [0b01100100, 0b10110000] = .ok (.fmtLin11 0b10110 0b00001100100) [] ∧
    decode .vmode [0b11110111] = .ok (.fmtVmode 0b111 0b10111) [] ∧
    decode .vout16 [0x1A, 0x18] = .ok (.fmtVout16 0x181A) [] ∧
    decode .pagebuf [0x10, 0x9A] = .ok (.fmtPagebuf 0x9A 0x10) [] ∧
    decode .pecmsg [0b10110000, 0x00, 0x10] = .ok (.fmtPecmsg 0b1011000 0x00 0x10) [] ∧
    decode .status16 [0x02, 0x08] = .ok (.fmtStatus16 0x0802) [] ∧
    decode .f64 [0x00, 0x00, 0x00, 0x00, 0x00, 0x00, 0xE0, 0xBF] = .ok (.fmtF64 1 0x3FE 0) [] := by
  decide

/-- Table 30-3. -/
theorem test_decode_commands :
    decode .cmd8 [0b01111001] = .ok .cmdStatusWord [] ∧
    decode .cmd8 [0b10001000] = .ok .cmdReadVin [] ∧
    decode .cmd8 [0b10010000] = .ok .cmdReadFanSpeed1 [] ∧
    decode .cmd8 [0b10001101] = .ok .cmdReadTemperature1 [] ∧
    decode .cmd8 [0b10001110] = .ok .cmdReadTemperature2 [] ∧
    decode .cmd8 [0b10001100] = .ok .cmdReadIout [] ∧
    decode .cmd8 [0b10001001] = .ok .cmdReadIin [] ∧
    decode .cmd8 [0b10010110] = .ok .cmdReadPout [] ∧
    decode .cmd8 [0b10010111] = .ok .cmdReadPin [] ∧
    decode .cmd8 [0b00100000] = .ok .cmdVoutMode [] ∧
    decode .cmd8 [0b10001011] = .ok .cmdReadVout [] ∧
    decode .cmd8 [0b00000000] = .ok .cmdPage [] := by
  decide

/-- Table 30-4. -/
theorem test_decode_pages :
    decode .page8 [0b00000000] = .ok .page12V1 [] ∧ decode .page8 [0b00000001] = .ok .page12V2 [] ∧
    decode .page8 [0b00000010] = .ok .page12V3 [] ∧ decode .page8 [0b00010000] = .ok .page5V [] ∧
    decode .page8 [0b00010001] = .ok .page3V3 [] := by
  decide

/-- R98: a microprogram row by its number, bits 7:5 outside the mask. -/
theorem test_decode_rows :
    ([0, 1, 2, 3, 4, 5, 6, 7].map fun b => decode .urom [b]) =
      [.ok .urom00 [], .ok .urom01 [], .ok .urom02 [], .ok .urom03 [], .ok .urom04 [],
       .ok .urom05 [], .ok .urom06 [], .ok .urom07 []] ∧
    ([8, 9, 10, 11, 12, 13, 14, 15].map fun b => decode .urom [b]) =
      [.ok .urom08 [], .ok .urom09 [], .ok .urom10 [], .ok .urom11 [], .ok .urom12 [],
       .ok .urom13 [], .ok .urom14 [], .ok .urom15 []] ∧
    ([16, 17, 18, 19, 20, 21, 22, 0b11110111].map fun b => decode .urom [b]) =
      [.ok .urom16 [], .ok .urom17 [], .ok .urom18 [], .ok .urom19 [], .ok .urom20 [],
       .ok .urom21 [], .ok .urom22 [], .ok .urom23 []] := by
  decide

/-- Words that encode nothing. -/
theorem test_decode_refuses :
    decode .op [0x00] = .bad .noOperation ∧ decode .op [0x10] = .bad .noOperation ∧
    decode .op [] = .bad .truncated ∧ decode .op [0x01, 0x00] = .bad .truncated ∧
    decode .op [0x02, 0x02, 0x00] = .bad .badSequence ∧
    decode .op [0x04, 0x00, 0x20, 0x00] = .bad .noSignField ∧
    decode .op [0x08, 0x80, 0x00, 0x00] = .bad .addressTooWide ∧
    decode .op [0x0B, 0x11] = .bad .noRegister ∧ decode .op [0x0C, 0x05] = .bad .noRail ∧
    decode .op [0x0F, 0x01, 0x18, 0x00] = .bad .noStep ∧
    decode .op [0x0F, 0x00, 0x01, 0x00] = .bad .noFailure ∧
    decode .pecmsg [0xB1, 0x00, 0x10] = .bad .writeBitSet ∧
    decode .cmd8 [0x01] = .bad .noCommand ∧ decode .page8 [0x03] = .bad .noPage ∧
    decode .urom [0x18] = .bad .noStep := by
  decide

/-- The encoder writes the bytes of the spec's examples. -/
theorem test_encode :
    encode (.fmtLin11 0b10110 100) = [0x64, 0xB0] ∧ encode (.fmtPagebuf 0x9A 0x10) = [0x10, 0x9A] ∧
    encode (.fmtPecmsg 0x58 0x00 0x10) = [0xB0, 0x00, 0x10] ∧
    encode (.f64Mul ⟨6144, -9⟩ ⟨800, -6⟩) = [0x07, 0x17, 0x18, 0x00, 0xD3, 0x20] := by
  decide

/-- A table word of each size. -/
theorem test_tableWord :
    decodeTableWord 8 0x01 = some (.pecStep 0 0) ∧ decodeTableWord 8 0x8B = some .cmdReadVout ∧
    decodeTableWord 8 0x17 = some .urom23 ∧
    decodeTableWord 16 0b1011000001100100 = some (.fmtLin11 0b10110 100) ∧
    decodeTableWord 24 0b101100000000000000010000 = some (.fmtPecmsg 0x58 0x00 0x10) ∧
    decodeTableWord 64 0xBFE0000000000000 = some (.fmtF64 1 0x3FE 0) := by
  decide

/-! ## Function units (spec/95_test_vectors.md sections 2 to 4) -/

theorem test_pecStep : resultOf (exec (.pecStep 0x00 0xB0) State.reset) = some (.crc 0x19) := by decide

theorem test_pecStep_second_link :
    resultOf (exec (.pecStep 0x4F 0x11) State.reset) = some (.crc 0x9D) := by decide

theorem test_pecChain_check_value :
    resultOf (exec (.pecChain [0x31, 0x32, 0x33, 0x34, 0x35, 0x36, 0x37, 0x38, 0x39]) State.reset) =
      some (.crc 0xF4) := by decide

theorem test_pecChain_trailing_zero :
    resultOf (exec (.pecChain [0x5A, 0x00]) State.reset) = some (.crc 0x8E) := by decide

theorem test_pecCheck_match :
    resultOf (exec (.pecCheck [0xB0, 0x00, 0x10] 0x9A) State.reset) = some (.ok true) := by decide

theorem test_pecCheck_other_address :
    resultOf (exec (.pecCheck [0xB2, 0x00, 0x00] 0xEA) State.reset) = some (.ok false) := by decide

theorem test_signRec_five : resultOf (exec (.signRec .five 0b10110) State.reset) = some (.int (-10)) := by
  decide

theorem test_signRec_eleven : resultOf (exec (.signRec .eleven 1024) State.reset) = some (.int (-1024)) := by
  decide

theorem test_lin11Dec : resultOf (exec (.lin11Dec 0xB0 0x64) State.reset) =
    some (.f64 ⟨100, -10⟩ 0x3FB9000000000000) := by decide

theorem test_lin11Dec_most_negative : resultOf (exec (.lin11Dec 0x7C 0x00) State.reset) =
    some (.f64 ⟨-1024, 15⟩ 0xC180000000000000) := by decide

theorem test_voutDec_upper_mode_bits : resultOf (exec (.voutDec 0xF7 0x06 0x9A) State.reset) =
    some (.f64 ⟨1690, -9⟩ 0x400A680000000000) := by decide

theorem test_voutDec_unsigned : resultOf (exec (.voutDec 0x10 0xFF 0xFF) State.reset) =
    some (.f64 ⟨65535, -16⟩ 0x3FEFFFE000000000) := by decide

theorem test_f64Mul_largest : resultOf (exec (.f64Mul ⟨65535, 15⟩ ⟨1023, 15⟩) State.reset) =
    some (.f64 ⟨67042305, 30⟩ 0x436FF7E008000000) := by decide

theorem test_f64Mul_minus_zero : resultOf (exec (.f64Mul ⟨0, -9⟩ ⟨-1, 0⟩) State.reset) =
    some (.f64 ⟨0, -9⟩ 0x8000000000000000) := by decide

theorem test_pageBuild : resultOf (exec (.pageBuild 0x58 0x00 0x10) State.reset) =
    some (.payload 0x10 0x9A 0x9A10) := by decide

theorem test_pageBuild_other_command : resultOf (exec (.pageBuild 0x58 0x8B 0x00) State.reset) =
    some (.payload 0x00 0xCB 0xCB00) := by decide

/-! ## Formats and constants -/

theorem test_fmtLin11 : resultOf (exec (.fmtLin11 0b10110 100) State.reset) = some (.lin11 (-10) 100) := by
  decide

theorem test_fmtVmode : resultOf (exec (.fmtVmode 0b111 0b10111) State.reset) = some (.vmode (-9)) := by
  decide

theorem test_fmtVout16 : resultOf (exec (.fmtVout16 0xFFFF) State.reset) = some (.vout16 65535) := by decide

theorem test_fmtPagebuf : resultOf (exec (.fmtPagebuf 0x9A 0x10) State.reset) =
    some (.payload 0x10 0x9A 0x9A10) := by decide

theorem test_fmtPecmsg : resultOf (exec (.fmtPecmsg 0x7F 0x00 0x11) State.reset) =
    some (.message [0xFE, 0x00, 0x11]) := by decide

theorem test_fmtStatus16 : resultOf (exec (.fmtStatus16 0x0802) State.reset) = some (.status 0x0802) := by
  decide

theorem test_fmtF64 : resultOf (exec (.fmtF64 1 0x3FE 0) State.reset) = some (.f64Fields 1 0x3FE 0) := by
  decide

/-- Table 30-3: code, size and format of a row the block emits and of one it does not. -/
theorem test_commands : ∃ a b : CommandInfo,
    resultOf (exec .cmdVoutMode State.reset) = some (.command a) ∧ a.code = 0x20 ∧ a.bytes = 1 ∧
    a.form = some .vmode ∧ a.paging = .paged ∧
    resultOf (exec .cmdReadVin State.reset) = some (.command b) ∧ b.code = 0x88 ∧ b.bytes = 2 ∧
    b.form = none :=
  ⟨_, _, rfl, rfl, rfl, rfl, rfl, rfl, rfl, rfl, rfl⟩

theorem test_pages : resultOf (exec .page3V3 State.reset) = some (.page ⟨4, "3.3V", 0x11, 19⟩) ∧
    resultOf (exec .page12V1 State.reset) = some (.page ⟨0, "12V1", 0x00, 3⟩) := by decide

/-! ## Micro-operations (spec/95_test_vectors.md section 5, by row) -/

/-- Row 1. -/
theorem test_seqStart : nextWith (fun t => decide (t.seqPc = .step 0 ∧ t.waiting = false ∧
    t.devAddrQ = 0x58 ∧ t.busIndexQ = 1 ∧ t.snapValid = false ∧ t.captureValid 3 = false ∧
    t.busy = true ∧ t.reqPort = none)) (exec (.seqStart 0x58 1) (done none)) = true := by decide

/-- Row 2. -/
theorem test_seqStart_busy : exec (.seqStart 0x25 0) (poll 9 true none) = .next (poll 9 true none) := rfl

/-- Row 3. -/
theorem test_open_issue : requestOf (exec .openBus (poll 0 false none)) =
    some ⟨.openReq, 1, 0x58, 0, 0, 0⟩ := by decide

/-- Row 5. -/
theorem test_open_failure : nextWith (fun t => decide (failure t = (true, 1, 0, false, .idle) ∧
    t.connOpen = false ∧ t.waiting = false))
    (exec .openBus (poll 0 true (some (.response bad)))) = true := by decide

/-- Row 8. -/
theorem test_rd_one_byte : nextWith (fun t => decide (t.capture? 2 = some 0x0017 ∧ t.seqPc = .step 5))
    (exec (.rd 0x20 1 2) (poll 4 true (some (.response (good 1 0xAB17))))) = true := by decide

/-- Row 9. -/
theorem test_rd_failure : nextWith (fun t => decide (failure t = (true, 2, 9, false, .step 23) ∧
    t.captureValid 6 = false)) (exec (.rd 0x8B 2 6) (poll 9 true (some (.response bad)))) = true := by
  decide

/-- Row 11. -/
theorem test_wrPage_issue : requestOf (exec (.wrPage 3) (poll 15 false none)) =
    some ⟨.writeReq, 0, 0x58, 0x00, 2, 0x9A10⟩ := by decide

/-- Row 13. -/
theorem test_wrPage_failure : nextWith (fun t => decide (failure t = (true, 2, 3, true, .step 23) ∧
    t.devPage = none)) (exec (.wrPage 0) (poll 3 true (some (.response bad)))) = true := by decide

/-- Row 16. -/
theorem test_close_after_failure : nextWith (fun t => decide (t.connOpen = false ∧ t.snapValid = false ∧
    failure t = (true, 2, 9, false, .idle)))
    (exec .closeBus (failing (some (.response (good 0 0))))) = true := by decide

/-- Row 17: the status of the response is ignored. -/
theorem test_close_reporting_failure : nextWith (fun t => decide (t.connOpen = false ∧
    t.snapValid = true ∧ t.seqPc = .idle ∧ t.busy = false))
    (exec .closeBus (poll 23 true (some (.response bad)))) = true := by decide

/-- R180 and the fault of a micro-operation outside its row (log 12). -/
theorem test_seqDone : nextWith (fun t => t.snapValid) (exec .seqDone (poll 23 true none)) = true ∧
    exec .seqDone (failing none) = .fault .notEnabled := ⟨rfl, rfl⟩

/-- R226: what the abort saves, changes and keeps. -/
theorem test_seqAbort : nextWith (fun t => decide (failure t = (true, 3, 4, false, .step 23) ∧
    t.connOpen = true ∧ t.captureValid 1 = true ∧ t.devAddrQ = 0x58))
    (exec (.seqAbort .decodeFailure 4 false) (poll 4 true none)) = true := by decide

/-! ## Microprogram rows -/

/-- Table 43-1: what each row presents: kind, command (but for row 2), length and payload. -/
theorem test_rows_request :
    ([0, 1, 3, 4, 5, 6, 7, 23].map fun k => requestOf (exec (uromInstr k) (poll k false none))) =
      [some ⟨.openReq, 1, 0x58, 0, 0, 0⟩, some ⟨.readReq, 0, 0x58, 0x79, 2, 0⟩,
       some ⟨.writeReq, 0, 0x58, 0, 2, 0xEA00⟩, some ⟨.readReq, 0, 0x58, 0x20, 1, 0⟩,
       some ⟨.readReq, 0, 0x58, 0x8B, 2, 0⟩, some ⟨.readReq, 0, 0x58, 0x8C, 2, 0⟩,
       some ⟨.writeReq, 0, 0x58, 0, 2, 0xED01⟩, some ⟨.closeReq, 0, 0x58, 0, 0, 0⟩] ∧
    ([11, 15, 19].map fun k => requestOf (exec (uromInstr k) (poll k false none))) =
      [some ⟨.writeReq, 0, 0x58, 0, 2, 0xE402⟩, some ⟨.writeReq, 0, 0x58, 0, 2, 0x9A10⟩,
       some ⟨.writeReq, 0, 0x58, 0, 2, 0x9D11⟩] := by
  decide

/-- Row 2 presents `BB_TEMP_CMD`, whatever it is. -/
theorem test_row_temperature : requestOf (exec .urom02 (poll 2 false none)) =
    some ⟨.readReq, 0, 0x58, Config.bbTempCmd, 2, 0⟩ := rfl

/-- R5, R68: whatever it is, it is one of Table 30-3, and none of the five other codes of Table 20-1. -/
theorem test_temperature_code (c : Config.TempCmd) :
    (commandInstr c.code.toNat).isSome = true ∧
    c.code ∉ ([0x79, 0x00, 0x20, 0x8B, 0x8C] : List Byte) := by
  cases c <;> decide

/-- Program P2: what some rows store, and the page the device is on. -/
theorem test_rows_response :
    nextWith (fun t => decide (t.capture? 1 = some 0xE258 ∧ t.seqPc = .step 3))
      (exec .urom02 (poll 2 true (some (.response (good 2 0xE258))))) = true ∧
    nextWith (fun t => decide (t.devPage = some 0x10 ∧ t.pageState = .selected 3))
      (exec .urom15 (poll 15 true (some (.response (good 0 0))))) = true ∧
    nextWith (fun t => decide (t.capture? 16 = some 0xFFFF ∧ t.seqPc = .step 23))
      (exec .urom22 (poll 22 true (some (.response (good 2 0xFFFF))))) = true := by
  decide

/-- Row 10 of section 5: a wrong length. -/
theorem test_row_wrong_length : nextWith (fun t => decide (failure t = (true, 3, 4, false, .step 23) ∧
    t.captureValid 2 = false)) (exec .urom04 (poll 4 true (some (.response (good 2 0x0017))))) = true := by
  decide

/-- Row 18 of section 5: no answer, no change. -/
theorem test_row_hang : exec .urom13 (poll 13 true (some .quiet)) = .next (poll 13 true (some .quiet)) :=
  rfl

/-! ## Steps, reset, snapshot -/

/-- Row 19 of section 5: a response while nothing is outstanding is not taken; the request is issued. -/
theorem test_step_early_response :
    nextWith (fun t => decide (t.seqPc = .step 13 ∧ t.waiting = true ∧ t.captureValid 9 = false))
      (step (poll 13 false (some (.response (good 2 0x1800))))) = true := by decide

/-- R251: reset in mid-poll drops the poll. -/
theorem test_step_reset : nextWith (fun t => decide (t.seqPc = .idle ∧ t.connOpen = false ∧
    t.reqPort = none ∧ t.captureValid 0 = false ∧ t.devPage = some 0x01))
    (step (poll 9 true (some .reset))) = true := by decide

/-- R254: an operation at the function units' inputs during a poll. -/
theorem test_step_operate :
    step (poll 9 true (some (.operate .op [0x01, 0x00, 0xB0]))) =
      .next { poll 9 true none with result := .crc 0x19 } := rfl

/-- The snapshot of program P2. -/
theorem test_snapshot :
    (done none).snapStatus = some 0x0802 ∧ (done none).snapTemp = some 0x4042C00000000000 ∧
    (done none).rail 0 =
      some ⟨"12V1", 0x40281A0000000000, 0x4029000000000000, 0x4062D45000000000⟩ ∧
    (done none).rail 2 = some ⟨"12V3", 0x4028000000000000, 0, 0⟩ ∧
    (done none).rail 3 = some ⟨"5V", 0x4014290000000000, 0x3FFCE00000000000, 0x402230FF00000000⟩ ∧
    (done none).rail 4 =
      some ⟨"3.3V", 0x400A680000000000, 0xBFE0000000000000, 0xBFFA680000000000⟩ := by
  decide

/-- R31: no snapshot while `snap_valid = 0`. -/
theorem test_no_snapshot : (poll 23 true none).snapshot = none ∧ State.reset.snapshot = none := by decide

/-- P7: one sequencer's failure leaves the other as it was. -/
theorem test_system : (System.mk [poll 4 true (some (.response bad)), poll 9 true none]).stepAt 0 =
    .next (System.mk [{ poll 4 false none with
      fail := true, errCode := 2, errStep := 4, seqPc := .step 23 }, poll 9 true none]) := rfl

/-- A table word is what the next step runs. -/
theorem test_withFetchWord :
    nextWith (fun t => decide (t.result = .crc 0)) (step (State.reset.withFetchWord 8 0x01)) = true ∧
    nextWith (fun t => decide (t.seqPc = .step 16 ∧ t.waiting = true))
      (step (State.reset.withFetchWord 8 0x10)) = true := by decide

/-! ## The states above have the invariant -/

theorem idle_inv (x : Option Input) (hx : ∀ y, x = some y → admissible y = true) : (idle x).Inv where
  idle_rest _ := ⟨rfl, rfl⟩
  request := rfl
  connection _ h := nomatch h
  snapshot_whole h := nomatch h
  no_failure _ := ⟨rfl, rfl, rfl⟩
  failure h := nomatch h
  progress _ h := nomatch h
  fresh _ _ _ := by show ∀ i, State.reset.captureValid i = false; decide
  page _ h := nomatch h
  byte_registers := by
    show ∀ i : Fin 17, captureWidth i = 8 → hiByte (State.reset.captures[i.val]).bits = 0; decide
  presented := hx

theorem poll_inv (k : Fin 24) (w : Bool) (x : Option Input)
    (hx : ∀ y, x = some y → admissible y = true) : (poll k w x).Inv where
  idle_rest h := nomatch h
  request := rfl
  connection _ h := by cases h; rfl
  snapshot_whole h := nomatch h
  no_failure _ := ⟨rfl, rfl, rfl⟩
  failure h := nomatch h
  progress _ h _ i := by cases h; simp [State.captureValid, poll, quietPoll]
  fresh h := nomatch h
  page := by
    show ∀ r, (quietPoll k).pageState = .selected r → (quietPoll k).devPage = some (pageIdx r)
    clear hx; revert k; decide
  byte_registers i _ := by simp [poll, quietPoll, hiByte]
  presented := hx

theorem failing_inv (x : Option Input) (hx : ∀ y, x = some y → admissible y = true) : (failing x).Inv where
  idle_rest h := nomatch h
  request := rfl
  connection _ h := by cases h; rfl
  snapshot_whole h := nomatch h
  no_failure h := nomatch h
  failure _ := ⟨.transportIO, 9, false, by decide, rfl, rfl, rfl, by
    intro i; simp [State.captureValid, failing], .inr ⟨rfl, by decide⟩⟩
  progress _ _ h := nomatch h
  fresh h := nomatch h
  page _ h := nomatch h
  byte_registers i _ := by simp [failing, hiByte]
  presented := hx

theorem failed_inv (x : Option Input) (hx : ∀ y, x = some y → admissible y = true) : (failed x).Inv where
  idle_rest _ := ⟨rfl, rfl⟩
  request := rfl
  connection _ h := nomatch h
  snapshot_whole h := nomatch h
  no_failure h := nomatch h
  failure _ := ⟨.transportIO, 9, false, by decide, rfl, rfl, rfl, by
    intro i; simp [State.captureValid, failed, failing], .inl rfl⟩
  progress _ h := nomatch h
  fresh _ h := nomatch h
  page _ h := nomatch h
  byte_registers i _ := by simp [failed, failing, hiByte]
  presented := hx

theorem done_inv (x : Option Input) (hx : ∀ y, x = some y → admissible y = true) : (done x).Inv where
  idle_rest _ := ⟨rfl, rfl⟩
  request := rfl
  connection _ h := nomatch h
  snapshot_whole _ := ⟨rfl, rfl, by show ∀ i, (done none).captureValid i = true; decide⟩
  no_failure _ := ⟨rfl, rfl, rfl⟩
  failure h := nomatch h
  progress _ h := nomatch h
  fresh _ _ h := nomatch h
  page _ h := nomatch h
  byte_registers := by
    show ∀ i : Fin 17, captureWidth i = 8 → hiByte ((done none).captures[i.val]).bits = 0; decide
  presented := hx

theorem admits {x : Input} (h : admissible x = true) : ∀ y, some x = some y → admissible y = true := by
  rintro _ ⟨⟩; exact h

/-! ## Hypotheses met: operands and words -/

theorem witness_PecChainLinearWithZeroResidue : ([0xB0, 0x00] : List Byte).length = [0x01, 0xFF].length := rfl

theorem witness_SignRecResult : (0b10110 : BitVec 11).toNat < 2 ^ SignWidth.five.bits ∧
    (31 : BitVec 11).toNat < 2 ^ SignWidth.five.bits ∧
    (2047 : BitVec 11).toNat < 2 ^ SignWidth.eleven.bits := by decide

/-- The corners of R143's operands: a product that is not zero, the zero voltage, the zero current. -/
theorem witness_F64MulResult :
    isVoutResult ⟨65535, 15⟩ = true ∧ isLin11Result ⟨-1024, -16⟩ = true ∧ isVoutResult ⟨0, -16⟩ = true ∧
    isLin11Result ⟨-1, 15⟩ = true ∧ isLin11Result ⟨0, 0⟩ = true := by decide

theorem witness_OperandsOutsideTheRulesAreRefused :
    (isVoutResult ⟨65536, 0⟩ && isLin11Result ⟨1, 0⟩) = false ∧
    (isVoutResult ⟨1, 16⟩ && isLin11Result ⟨1, 0⟩) = false ∧
    (isVoutResult ⟨1, 0⟩ && isLin11Result ⟨1, -17⟩) = false ∧
    2 ^ SignWidth.five.bits ≤ (32 : BitVec 11).toNat := by decide

theorem witness_DecodersRoundTrip :
    lin11Decode (hiByte (BitVec.ofNat 16 ((((-16 : Int) % 32).toNat <<< 11) ||| ((-1024 : Int) % 2048).toNat)))
      (loByte (BitVec.ofNat 16 ((((-16 : Int) % 32).toNat <<< 11) ||| ((-1024 : Int) % 2048).toNat))) =
      ⟨-1024, -16⟩ ∧
    voutDecode (BitVec.ofNat 8 ((15 : Int) % 32).toNat) (hiByte (BitVec.ofNat 16 65535))
      (loByte (BitVec.ofNat 16 65535)) = ⟨65535, 15⟩ := by decide

/-- R141: two pairs of one value, and the ends of the range. -/
theorem witness_BinaryPatternsAreExact :
    (2 : Int).natAbs < 2 ^ 26 ∧ (-67107840 : Int).natAbs < 2 ^ 26 ∧ enc64 ⟨2, 0⟩ = enc64 ⟨1, 1⟩ ∧
    enc64 ⟨-67107840, -32⟩ = 0xBF8FFFE000000000 ∧ dyValue ⟨2, 0⟩ = dyValue ⟨1, 1⟩ :=
  ⟨by decide, by decide, by decide, by decide, by norm_num [dyValue]⟩

theorem witness_DecoderZeroIsPositive :
    ((0xF8 : Byte).toNat * 256 + (0x00 : Byte).toNat) % 2048 = 0 := by decide

theorem witness_PayloadBelongsToOneAddress : (0x58 : BitVec 7) ≠ 0x59 := by decide

theorem witness_FunctionUnitsNeverTouchTheSequencer :
    (Instr.f64Mul ⟨6144, -9⟩ ⟨800, -6⟩).WellFormed ∧
    isSequencerOp (.f64Mul ⟨6144, -9⟩ ⟨800, -6⟩) = false ∧
    (Instr.cmdPage).WellFormed ∧ isSequencerOp .cmdPage = false := by decide

theorem witness_DecodeReadsBackEncode :
    (Instr.signRec .eleven 2047).WellFormed ∧ (Instr.rd 0x20 1 14).WellFormed ∧
    (Instr.seqAbort .transportOpen 0 false).WellFormed ∧ (Instr.seqStart 0x7F 258).WellFormed := by decide

theorem witness_DecodedInstructionsAreWellFormed :
    decode .op [0x0F, 0x02, 0x16, 0x00, 0xFF] = .ok (.seqAbort .decodeFailure 22 false) [0xFF] := by decide

/-! ## Hypotheses met: one instruction -/

theorem witness_SeqStartBeginsAPoll : (done none).seqPc = .idle := rfl

theorem witness_StartWhileBusyIsIgnored : (poll 9 true none).seqPc ≠ .idle := by decide

theorem witness_IssueHalfPresentsTheRowsRequest : ∀ k : Fin 24,
    (poll k false none).seqPc = .step k ∧ (poll k false none).waiting = false := by decide

theorem witness_RowsRunOnlyAtTheirStep : State.reset.seqPc ≠ .step 0 ∧
    (poll 13 true (some .quiet)).seqPc = .step 13 ∧ (poll 13 true (some .quiet)).waiting = true ∧
    (poll 13 true (some .quiet)).response? = none := by decide

theorem witness_OpenAcquiresTheConnection : ∀ ok : Bool,
    (poll 0 true (some (.response ⟨ok, 0, 0⟩))).seqPc = .step 0 ∧
    (poll 0 true (some (.response ⟨ok, 0, 0⟩))).waiting = true ∧
    (poll 0 true (some (.response ⟨ok, 0, 0⟩))).input = some (.response ⟨ok, 0, 0⟩) := by decide

/-- Success, read error and wrong length, for every register. -/
theorem witness_RdStoresWhatTheDeviceAnswers : ∀ d : Fin 17,
    (poll (captureStep d) true none).seqPc = .step (captureStep d) ∧
    (good (captureLen d) 0xAB17).ok = true ∧ ¬ (good (captureLen d) 0xAB17).len ≠ captureLen d ∧
    bad.ok = false ∧ (good 3 0).ok = true ∧ (good 3 0).len ≠ captureLen d := by decide

theorem witness_WrPageSelectsTheRail : ∀ r : Fin 5,
    (poll (wrPageStep r) true none).seqPc = .step (wrPageStep r) ∧
    (poll (wrPageStep r) true none).waiting = true ∧ (poll (wrPageStep r) false none).waiting = false := by
  decide

theorem witness_CloseReleasesOnEveryPath :
    (failing (some (.response bad))).seqPc = .step 23 ∧ (failing (some (.response bad))).waiting = true ∧
    (failing (some (.response bad))).fail = true ∧ (poll 23 true none).fail = false := by decide

theorem witness_SeqDoneMakesTheSnapshotReadable :
    (poll 23 true none).seqPc = .step 23 ∧ (poll 23 true none).fail = false := by decide

theorem witness_SeqAbortRecordsAndLeaves : (poll 0 true none).seqPc = .step 0 ∧
    (poll 22 true none).seqPc = .step 22 := by decide

theorem witness_MicroOperationsStopOutsideTheirRow :
    State.reset.seqPc ≠ .step 0 ∧ State.reset.seqPc ≠ .step (captureStep 16) ∧
    (0x20 : Byte) ≠ captureCmd 0 ∧ (1 : BitVec 2) ≠ captureLen 0 ∧
    State.reset.seqPc ≠ .step (wrPageStep 4) ∧ State.reset.seqPc ≠ .step 23 ∧
    (failing none).fail = true := by decide

/-! ## Hypotheses met: steps -/

/-- Each of the four ways a failure begins. -/
theorem witness_FailuresAreTable601 :
    (∃ s t : State, s.Inv ∧ step s = .next t ∧ s.fail = false ∧ t.fail = true ∧ t.errCode = 1) ∧
    (∃ s t : State, s.Inv ∧ step s = .next t ∧ s.fail = false ∧ t.fail = true ∧ t.errCode = 2 ∧
      t.errRw = false) ∧
    (∃ s t : State, s.Inv ∧ step s = .next t ∧ s.fail = false ∧ t.fail = true ∧ t.errCode = 2 ∧
      t.errRw = true) ∧
    (∃ s t : State, s.Inv ∧ step s = .next t ∧ s.fail = false ∧ t.fail = true ∧ t.errCode = 3) :=
  ⟨⟨poll 0 true (some (.response bad)), _, poll_inv _ _ _ (admits rfl), rfl, rfl, rfl, rfl⟩,
   ⟨poll 22 true (some (.response bad)), _, poll_inv _ _ _ (admits rfl), rfl, rfl, rfl, rfl, rfl⟩,
   ⟨poll 3 true (some (.response bad)), _, poll_inv _ _ _ (admits rfl), rfl, rfl, rfl, rfl, rfl⟩,
   ⟨poll 4 true (some (.response (good 2 0))), _, poll_inv _ _ _ (admits rfl), rfl, rfl, rfl, rfl⟩⟩

/-- A failure kept by the answer to CLOSE and by a start in mid-poll, cleared by a start in IDLE and by
reset. -/
theorem witness_FailuresAreTable601_lifetime :
    (∃ t : State, (failing (some (.response bad))).Inv ∧
      step (failing (some (.response bad))) = .next t ∧ failure t = (true, 2, 9, false, .idle)) ∧
    (∃ t : State, (failing (some (.start 0x25 0))).Inv ∧
      step (failing (some (.start 0x25 0))) = .next t ∧ failure t = (true, 2, 9, false, .step 23)) ∧
    (∃ t : State, (failed (some (.start 0x58 1))).Inv ∧
      step (failed (some (.start 0x58 1))) = .next t ∧ failure t = (false, 0, 0, false, .step 0)) ∧
    (∃ t : State, (failed (some .reset)).Inv ∧
      step (failed (some .reset)) = .next t ∧ failure t = (false, 0, 0, false, .idle)) :=
  ⟨⟨_, failing_inv _ (admits rfl), rfl, rfl⟩, ⟨_, failing_inv _ (admits rfl), rfl, rfl⟩,
   ⟨_, failed_inv _ (admits rfl), rfl, rfl⟩, ⟨_, failed_inv _ (admits rfl), rfl, rfl⟩⟩

/-- Reset in mid-poll, with a read and with a page write outstanding. -/
theorem witness_ResetInputRestsFromAnyState :
    (poll 9 true (some .reset)).input = some .reset ∧
    ((poll 9 true (some .reset)).reqPort.map Request.kind) = some .readReq ∧
    (poll 15 true (some .reset)).input = some .reset ∧
    ((poll 15 true (some .reset)).reqPort.map Request.kind) = some .writeReq := by decide

theorem witness_StepRunsTheDecodedInstruction :
    decode .op [0x01, 0x00, 0xB0] = .ok (.pecStep 0x00 0xB0) [] ∧
    (idle (some (.operate .op [0x01, 0x00, 0xB0]))).input = some (.operate .op [0x01, 0x00, 0xB0]) ∧
    (poll 23 true (some (.response bad))).seqPc = .step 23 ∧
    decode .urom [BitVec.ofNat 8 23] = .ok .urom23 [] ∧
    (idle (some (.start 0x58 1))).input = some (.start 0x58 1) ∧
    (idle (some .quiet)).seqPc = .idle ∧ (idle (some .quiet)).input = some .quiet := by decide

theorem witness_EnvironmentMovesChangeNothingElse : State.reset.input = none := rfl

theorem witness_EveryStepKeepsTheInvariant : ∃ s t : State, s.Inv ∧ step s = .next t :=
  ⟨poll 22 true (some (.response (good 2 0xFFFF))), _, poll_inv _ _ _ (admits rfl), rfl⟩

theorem witness_TheBlockNeverStops : (failing (some .quiet)).Inv := failing_inv _ (admits rfl)

/-- Each of the six ways. -/
theorem witness_SeqPcChangesInSixWays :
    (∃ t, (idle (some (.start 0x58 1))).Inv ∧ step (idle (some (.start 0x58 1))) = .next t ∧
      t.seqPc = .step 0) ∧
    (∃ t, (poll 22 true (some (.response (good 2 0)))).Inv ∧
      step (poll 22 true (some (.response (good 2 0)))) = .next t ∧ t.seqPc = .step 23) ∧
    (∃ t, (poll 23 true (some (.response bad))).Inv ∧
      step (poll 23 true (some (.response bad))) = .next t ∧ t.seqPc = .idle) ∧
    (∃ t, (poll 1 true (some (.response bad))).Inv ∧
      step (poll 1 true (some (.response bad))) = .next t ∧ t.seqPc = .step 23) ∧
    (∃ t, (poll 0 true (some (.response bad))).Inv ∧
      step (poll 0 true (some (.response bad))) = .next t ∧ t.seqPc = .idle) ∧
    (∃ t, (poll 9 true (some .reset)).Inv ∧ step (poll 9 true (some .reset)) = .next t ∧
      t.seqPc = .idle) :=
  ⟨⟨_, idle_inv _ (admits rfl), rfl, rfl⟩, ⟨_, poll_inv _ _ _ (admits rfl), rfl, rfl⟩,
   ⟨_, poll_inv _ _ _ (admits rfl), rfl, rfl⟩, ⟨_, poll_inv _ _ _ (admits rfl), rfl, rfl⟩,
   ⟨_, poll_inv _ _ _ (admits rfl), rfl, rfl⟩, ⟨_, poll_inv _ _ _ (admits rfl), rfl, rfl⟩⟩

theorem witness_RequestsAreTable201 : (poll 15 true none).Inv ∧
    (poll 15 true none).reqPort = some ⟨.writeReq, 0, 0x58, 0x00, 2, 0x9A10⟩ ∧
    (poll 2 true none).Inv ∧
    (poll 2 true none).reqPort = some ⟨.readReq, 0, 0x58, Config.bbTempCmd, 2, 0⟩ :=
  ⟨poll_inv _ _ _ nofun, rfl, poll_inv _ _ _ nofun, rfl⟩

/-- A paged read on the port, at the first and at the last read of a rail; and the three ways the page
changes. -/
theorem witness_PagedReadsFollowTheirPageWrite :
    (∃ q, (poll 20 true none).Inv ∧ (poll 20 true none).seqPc = .step 20 ∧
      (poll 20 true none).reqPort = some q ∧ q.kind = .readReq) ∧
    (∃ q, (poll 6 true none).Inv ∧ (poll 6 true none).seqPc = .step 6 ∧
      (poll 6 true none).reqPort = some q ∧ q.kind = .readReq) ∧
    (∃ t, (poll 3 true (some (.response (good 0 0)))).Inv ∧
      step (poll 3 true (some (.response (good 0 0)))) = .next t ∧ t.devPage = some 0x00) ∧
    (∃ t, (done (some (.start 0x58 1))).Inv ∧ step (done (some (.start 0x58 1))) = .next t ∧
      t.devPage = none) ∧
    (∃ t, (poll 15 true (some .reset)).Inv ∧ step (poll 15 true (some .reset)) = .next t ∧
      (poll 15 true (some .reset)).devPage = some 0x02 ∧ t.devPage = none) :=
  ⟨⟨_, poll_inv _ _ _ nofun, rfl, rfl, rfl⟩, ⟨_, poll_inv _ _ _ nofun, rfl, rfl, rfl⟩,
   ⟨_, poll_inv _ _ _ (admits rfl), rfl, rfl⟩, ⟨_, done_inv _ (admits rfl), rfl, rfl⟩,
   ⟨_, poll_inv _ _ _ (admits rfl), rfl, rfl, rfl⟩⟩

/-- A register written, and registers cleared by a start and by reset. -/
theorem witness_CapturesAreWrittenByTheirStepOnly :
    (∃ t, (poll 4 true (some (.response (good 1 0xAB17)))).Inv ∧
      step (poll 4 true (some (.response (good 1 0xAB17)))) = .next t ∧ t.capture? 2 = some 0x17) ∧
    (∃ t, (done (some (.start 0x58 1))).Inv ∧ step (done (some (.start 0x58 1))) = .next t ∧
      t.captureValid 16 = false) ∧
    (∃ t, (done (some .reset)).Inv ∧ step (done (some .reset)) = .next t ∧ t.captureValid 0 = false) :=
  ⟨⟨_, poll_inv _ _ _ (admits rfl), rfl, by decide⟩, ⟨_, done_inv _ (admits rfl), rfl, by decide⟩,
   ⟨_, done_inv _ (admits rfl), rfl, by decide⟩⟩

theorem witness_ConfigurationIsLatchedForThePoll :
    (∃ t, (done (some (.start 0x25 0))).Inv ∧ step (done (some (.start 0x25 0))) = .next t ∧
      t.devAddrQ ≠ (done none).devAddrQ ∧ t.busIndexQ ≠ (done none).busIndexQ) ∧
    (∃ t, (done (some .reset)).Inv ∧ step (done (some .reset)) = .next t ∧
      t.devAddrQ ≠ (done none).devAddrQ) :=
  ⟨⟨_, done_inv _ (admits rfl), rfl, by decide, by decide⟩,
   ⟨_, done_inv _ (admits rfl), rfl, by decide⟩⟩

/-- A snapshot becomes readable, stays, and goes. -/
theorem witness_SnapshotsAreAllOrNothing :
    (∃ t, (poll 23 true (some (.response bad))).Inv ∧
      step (poll 23 true (some (.response bad))) = .next t ∧
      (poll 23 true (some (.response bad))).snapValid = false ∧ t.snapValid = true) ∧
    (∃ t, (done (some .quiet)).Inv ∧ step (done (some .quiet)) = .next t ∧
      (done (some .quiet)).snapValid = true ∧ t.snapValid = true) ∧
    (∃ t, (done (some (.start 0x58 1))).Inv ∧ step (done (some (.start 0x58 1))) = .next t ∧
      t.snapValid = false) :=
  ⟨⟨_, poll_inv _ _ _ (admits rfl), rfl, rfl, rfl⟩, ⟨_, done_inv _ (admits rfl), rfl, rfl, rfl⟩,
   ⟨_, done_inv _ (admits rfl), rfl, rfl⟩⟩

theorem witness_SnapshotOutputsDecodeTheRegisters : (done none).snapValid = true ∧
    ∀ i : Fin 17, (done none).captures[i.val] = ⟨p2Words.getD i.val 0, true⟩ := by decide

/-- Both ends of a poll: a CLOSE answered with and without a failure, and a failed OPEN. -/
theorem witness_PollsEndWithOneOutcome :
    (∃ t, (failing (some (.response bad))).Inv ∧ step (failing (some (.response bad))) = .next t ∧
      (failing (some (.response bad))).busy = true ∧ t.busy = false ∧ t.fail = true) ∧
    (∃ t, (poll 23 true (some (.response bad))).Inv ∧
      step (poll 23 true (some (.response bad))) = .next t ∧ t.busy = false ∧ t.snapValid = true) ∧
    (∃ t, (poll 0 true (some (.response bad))).Inv ∧
      step (poll 0 true (some (.response bad))) = .next t ∧ t.busy = false ∧ t.fail = true) :=
  ⟨⟨_, failing_inv _ (admits rfl), rfl, rfl, rfl, rfl⟩, ⟨_, poll_inv _ _ _ (admits rfl), rfl, rfl, rfl⟩,
   ⟨_, poll_inv _ _ _ (admits rfl), rfl, rfl, rfl⟩⟩

theorem witness_AnsweredPollsEnd : (poll 0 false none).Inv ∧ 24 ≤ (List.replicate 24 bad).length :=
  ⟨poll_inv _ _ _ nofun, by decide⟩

/-- Responses that let every step succeed. -/
def allGood (k : Fin 24) : Response := ⟨true, (microprogram k).len, 0x0017⟩

theorem witness_SuccessfulPollsMakeTheTrace : (done none).Inv ∧ (done none).seqPc = .idle ∧
    ∀ k, succeeds k (allGood k) = true :=
  ⟨done_inv _ nofun, rfl, by decide⟩

/-- Responses that fail first at step 9; and at step 0. -/
theorem witness_FailedPollsMakeThePartTrace : (done none).Inv ∧ (done none).seqPc = .idle ∧
    (∀ j : Fin 24, j < 9 → succeeds j (allGood j) = true) ∧ succeeds 9 bad = false ∧
    succeeds 0 bad = false ∧ succeeds 22 (good 1 0) = false :=
  ⟨done_inv _ nofun, rfl, by decide, by decide, by decide, by decide⟩

theorem witness_SequencersAreIndependent :
    ∃ sys' : System, (System.reset 2).stepAt 1 = .next sys' := ⟨_, rfl⟩

theorem witness_PageStateFollowsSeqPc : (poll 4 false none).seqPc = .step 4 ∧
    (poll 4 false none).pageState = .selected 0 ∧ (poll 6 true none).pageState = .selected 0 ∧
    (poll 7 false none).pageState = .idle ∧ (poll 22 true none).pageState = .selected 4 ∧
    (poll 23 false none).pageState = .idle ∧ State.reset.pageState = .idle := by decide

end Sys2Proof.Tests
end

section
/-!
What a step can do, said once: the answer to a request (R175) and the move of a step, each an inductive
with one constructor for each way.
-/

namespace Sys2Proof.Machine

/-! ## The answer to a request -/

/-- The ways the response half of step `k` can end when `rsp` is taken in `s` (R174, R176, R177, R179, R181). -/
inductive Answer (s : State) (rsp : Response) : Fin 24 → State → Prop where
  | opened (hok : succeeds 0 rsp = true) :
      Answer s rsp 0 ((s.taken.setConn true).goto (nextPc 0))
  | read (d : Fin 17) (hok : succeeds (captureStep d) rsp = true) :
      Answer s rsp (captureStep d)
        ((s.taken.writeCapture d (readValue (captureLen d) rsp.data)).goto (nextPc (captureStep d)))
  | paged (r : Fin 5) (hok : succeeds (wrPageStep r) rsp = true) :
      Answer s rsp (wrPageStep r)
        ((s.taken.setDevPage (some (pageIdx r))).goto (nextPc (wrPageStep r)))
  | closed : Answer s rsp 23 s.respondClose
  | failed {k : Fin 24} (kind : FailKind) (rw : Bool) (hbad : succeeds k rsp = false)
      (hfits : abortFits kind k rw = true) (hkind : kind = .decodeFailure ↔ rsp.ok = true) :
      Answer s rsp k ((s.taken.setDevPage (if rw then none else s.devPage)).seqAbort kind k rw)

theorem State.respond_openBus (s : State) (rsp : Response) :
    s.respond 0 (microprogram 0) rsp = s.respondOpen 0 rsp := rfl

theorem State.respond_rd (s : State) (d : Fin 17) (rsp : Response) :
    s.respond (captureStep d) (microprogram (captureStep d)) rsp =
      s.respondRd (captureStep d) (captureLen d) d rsp := by
  rw [microprogram_captureStep]; rfl

theorem State.respond_wrPage (s : State) (r : Fin 5) (rsp : Response) :
    s.respond (wrPageStep r) (microprogram (wrPageStep r)) rsp =
      s.respondWrPage (wrPageStep r) r rsp := by
  rw [microprogram_wrPageStep]; rfl

theorem State.respond_closeBus (s : State) (rsp : Response) :
    s.respond 23 (microprogram 23) rsp = s.respondClose := rfl

theorem succeeds_openBus (rsp : Response) : succeeds 0 rsp = rsp.ok := rfl

theorem succeeds_rd (d : Fin 17) (rsp : Response) :
    succeeds (captureStep d) rsp = (rsp.ok && decide (rsp.len = captureLen d)) := by
  simp only [succeeds, microprogram_captureStep]; rfl

theorem succeeds_wrPage (r : Fin 5) (rsp : Response) : succeeds (wrPageStep r) rsp = rsp.ok := by
  simp only [succeeds, microprogram_wrPageStep]; rfl

theorem abortFits_openBus : abortFits .transportOpen 0 false = true := rfl

theorem abortFits_rd (d : Fin 17) : abortFits .transportIO (captureStep d) false = true ∧
    abortFits .decodeFailure (captureStep d) false = true := by
  revert d; decide

theorem abortFits_wrPage (r : Fin 5) : abortFits .transportIO (wrPageStep r) true = true := by
  revert r; decide

/-- The close at step 23 never fails, so no failure names it. -/
theorem lt_of_abortFits {kind : FailKind} {k : Fin 24} {rw : Bool} (h : abortFits kind k rw = true) :
    k.val + 1 < 24 := by
  have hk : k ≠ 23 := by
    rintro rfl
    have hclose := (microprogram_uop_closeBus 23).2 rfl
    cases kind <;> simp [abortFits, hclose] at h
  omega

theorem State.respondOpen_answer (s : State) (rsp : Response) : Answer s rsp 0 (s.respondOpen 0 rsp) := by
  unfold State.respondOpen
  split
  case isTrue hok => exact .opened hok
  case isFalse hok =>
    exact .failed .transportOpen false (by simpa [succeeds_openBus] using hok) abortFits_openBus
      (by simpa using hok)

theorem State.respondRd_answer (s : State) (d : Fin 17) (rsp : Response) :
    Answer s rsp (captureStep d) (s.respondRd (captureStep d) (captureLen d) d rsp) := by
  obtain ⟨hio, hlen⟩ := abortFits_rd d
  unfold State.respondRd
  split_ifs with hok hl
  · exact .failed .transportIO false (by simp_all [succeeds_rd]) hio (by simpa using hok)
  · exact .failed .decodeFailure false (by simp [succeeds_rd, hl]) hlen (by simpa using hok)
  · exact .read d (by simp_all [succeeds_rd])

theorem State.respondWrPage_answer (s : State) (r : Fin 5) (rsp : Response) :
    Answer s rsp (wrPageStep r) (s.respondWrPage (wrPageStep r) r rsp) := by
  unfold State.respondWrPage
  split
  case isTrue hok => exact .paged r (by rwa [succeeds_wrPage])
  case isFalse hok =>
    exact .failed .transportIO true (by simpa [succeeds_wrPage] using hok) (abortFits_wrPage r)
      (by simpa using hok)

/-- The response half of row `k` ends in one of the ways of `Answer`. -/
theorem State.respond_answer (s : State) (k : Fin 24) (rsp : Response) :
    Answer s rsp k (s.respond k (microprogram k) rsp) := by
  cases hu : (microprogram k).uop with
  | openBus =>
    obtain rfl := (microprogram_uop_openBus k).1 hu
    exact s.respondOpen_answer rsp
  | rd =>
    obtain ⟨d, rfl⟩ := (microprogram_uop_rd k).1 hu
    rw [State.respond_rd]
    exact s.respondRd_answer d rsp
  | wrPage =>
    obtain ⟨r, rfl⟩ := (microprogram_uop_wrPage k).1 hu
    rw [State.respond_wrPage]
    exact s.respondWrPage_answer r rsp
  | closeBus =>
    obtain rfl := (microprogram_uop_closeBus k).1 hu
    exact .closed

/-! ## The move of a step -/

/-- Everything a step from `s` can do while only admissible operations are presented (R57, R95, R175, R229). -/
inductive Move (s : State) : State → Prop where
  /-- The environment presents something. -/
  | sampled (x : Input) (hin : s.input = none) : Move s (s.sample x)
  | reset (hin : s.input = some .reset) : Move s s.resetBlock.endTurn
  | started (a : BitVec 7) (b : Nat) (hin : s.input = some (.start a b)) (hpc : s.seqPc = .idle) :
      Move s (s.seqStart a b).endTurn
  /-- A function unit drives its result wires, or nothing happens. -/
  | rested (r : Result) : Move s (s.setResult r).endTurn
  | issued (k : Fin 24) (hpc : s.seqPc = .step k) (hw : s.waiting = false) :
      Move s (s.issue (microprogram k)).endTurn
  | answered (k : Fin 24) (rsp : Response) (u : State) (hpc : s.seqPc = .step k)
      (hw : s.waiting = true) (hin : s.input = some (.response rsp)) (hu : Answer s rsp k u) :
      Move s u.endTurn

/-- A turn in which nothing happens. -/
theorem Move.quiet (s : State) : Move s s.endTurn := .rested s.result

theorem admissible_operate {f : Format} {bytes rest : List Byte} {i : Instr}
    (hd : decode f bytes = .ok i rest) (ha : admissible (.operate f bytes) = true) :
    isSequencerOp i = false := by
  simpa [admissible, hd] using ha

/-- A step from a state with the invariant is one of the moves. -/
theorem State.Inv.move {s t : State} (h : s.Inv) (hst : step s = .next t) : Move s t := by
  rcases step_cases s t hst with ⟨hin, rfl⟩ | ⟨hin, rfl⟩ | ⟨a, b, hin, hstart⟩ |
    ⟨f, bytes, i, rest, u, hin, hd, hex, rfl⟩ | ⟨-, hturn⟩
  · exact .sampled _ hin
  · exact .reset hin
  · rcases hstart with ⟨hpc, rfl⟩ | ⟨-, rfl⟩
    · exact .started a b hin hpc
    · exact .quiet s
  · obtain ⟨r, rfl⟩ := exec_functionUnit i s u (admissible_operate hd (h.presented _ hin)) hex
    exact .rested r
  · rcases hturn with ⟨-, rfl⟩ | ⟨k, hpc, rfl⟩
    · exact .quiet s
    · rcases s.transition_cases k (microprogram k) with ⟨hw, ht⟩ | ⟨-, ht⟩ | ⟨hw, rsp, hin, ht⟩
      all_goals rw [ht]
      · exact .issued k hpc hw
      · exact .quiet s
      · exact .answered k rsp _ hpc hw hin (s.respond_answer k rsp)

end Sys2Proof.Machine
end

section
/-!
The invariant: it holds after reset, and each move of a step keeps it.
-/

namespace Sys2Proof.Machine

/-! ## Facts the invariant is kept by -/

theorem State.pageState_eq_selected (s : State) (k : Fin 24) (hpc : s.seqPc = .step k) (r : Fin 5) :
    s.pageState = .selected r ↔ railOfStep k = some r := by
  cases hr : railOfStep k <;> simp [State.pageState, hpc, hr]

theorem State.pageState_idle (s : State) (hpc : s.seqPc = .idle) : s.pageState = .idle := by
  simp [State.pageState, hpc]

theorem captureStep_ne_zero : ∀ d : Fin 17, captureStep d ≠ 0 := by decide

theorem captureStep_succ_lt : ∀ d : Fin 17, (captureStep d).val + 1 < 24 := by decide

theorem wrPageStep_ne_zero : ∀ r : Fin 5, wrPageStep r ≠ 0 := by decide

theorem wrPageStep_succ_lt : ∀ r : Fin 5, (wrPageStep r).val + 1 < 24 := by decide

/-- The page write of a rail comes before no other rail's reads (R171). -/
theorem railOfStep_succ_wrPageStep : ∀ (r r' : Fin 5) (h : (wrPageStep r').val + 1 < 24),
    railOfStep ⟨(wrPageStep r').val + 1, h⟩ = some r → r' = r := by
  decide

/-- A read of the registers is followed by a rail's read only where it is one of that rail's itself (R171). -/
theorem railOfStep_succ_captureStep : ∀ (d : Fin 17) (r : Fin 5) (h : (captureStep d).val + 1 < 24),
    railOfStep ⟨(captureStep d).val + 1, h⟩ = some r → railOfStep (captureStep d) = some r := by
  decide

theorem captureStep_ne_wrPageStep : ∀ (d : Fin 17) (r : Fin 5), captureStep d ≠ wrPageStep r := by
  decide

theorem hiByte_captureCut (i : Fin 17) (v : Word) (hw : captureWidth i = 8) :
    hiByte (captureCut i v) = 0 := by
  rw [captureCut, if_pos hw, hiByte_setWidth_loByte]

theorem State.captureValid_eq (s : State) (i : Fin 17) : s.captureValid i = (s.captures[i.val]).valid := rfl

@[simp] theorem State.captureValid_endTurn (s : State) (i : Fin 17) :
    s.endTurn.captureValid i = s.captureValid i := rfl

@[simp] theorem State.captureValid_seqStart (s : State) (a : BitVec 7) (b : Nat) (i : Fin 17) :
    (s.seqStart a b).captureValid i = false := clearValid_valid s.captures i

@[simp] theorem State.captureValid_resetBlock (s : State) (i : Fin 17) :
    s.resetBlock.captureValid i = false := by
  simp [State.captureValid_eq, Capture.reset]

theorem State.respondClose_of_fail {s : State} (hf : s.fail = true) :
    s.respondClose = (s.taken.setConn false).goto .idle := by
  simp [State.respondClose, hf]

theorem State.respondClose_of_ok {s : State} (hf : s.fail = false) :
    s.respondClose = (s.taken.setConn false).seqDone.goto .idle := by
  simp [State.respondClose, hf]

namespace State.Inv

variable {s t : State}

/-- No failure is recorded while a poll is before its close. -/
theorem fail_eq_false (h : s.Inv) {k : Fin 24} (hpc : s.seqPc = .step k) (hk : k.val + 1 < 24) :
    s.fail = false := by
  by_contra hf
  obtain ⟨_, k', _, _, _, _, _, _, hidle | ⟨hclose, -⟩⟩ := h.failure (by simpa using hf)
  · simp [hpc] at hidle
  · rw [hpc, SeqPc.step.injEq] at hclose
    omega

/-- No snapshot is readable while a poll runs. -/
theorem snapValid_eq_false (h : s.Inv) {k : Fin 24} (hpc : s.seqPc = .step k) : s.snapValid = false := by
  by_contra hv
  have := (h.snapshot_whole (by simpa using hv)).1
  simp [hpc] at this

/-! ## The moves that leave the sequencer alone -/

/-- The invariant does not speak of `result` and `tick`, and of `input` only that it is admissible. -/
theorem frame (h : s.Inv) (x : Option Input) (r : Result) (n : Nat)
    (hx : ∀ y, x = some y → admissible y = true) :
    ({ s with input := x, result := r, tick := n } : State).Inv where
  idle_rest := h.idle_rest
  request := h.request
  connection := h.connection
  snapshot_whole := h.snapshot_whole
  no_failure := h.no_failure
  failure := h.failure
  progress := h.progress
  fresh := h.fresh
  page := h.page
  byte_registers := h.byte_registers
  presented := hx

theorem endTurn (h : s.Inv) : s.endTurn.Inv := h.frame none s.result s.tick nofun

theorem setResult (h : s.Inv) (r : Result) : (s.setResult r).Inv := h.frame s.input r s.tick h.presented

theorem sample (h : s.Inv) (x : Input) : (s.sample x).Inv := by
  refine h.frame _ s.result (s.tick + 1) fun y hy => ?_
  obtain rfl := Option.some.inj hy
  split
  · assumption
  · rfl

/-! ## Reset and start -/

/-- A state at rest with nothing valid and nothing recorded has the invariant. -/
theorem of_rest (hpc : s.seqPc = .idle) (hw : s.waiting = false) (hc : s.connOpen = false)
    (hq : s.reqPort = none) (hs : s.snapValid = false) (hf : s.fail = false)
    (he : s.errCode = 0 ∧ s.errStep = 0 ∧ s.errRw = false)
    (hcap : s.captures = Vector.replicate 17 Capture.reset)
    (hx : ∀ x, s.input = some x → admissible x = true) : s.Inv where
  idle_rest _ := ⟨hw, hc⟩
  request := by simp [hq, hpc]
  connection := by simp [hpc]
  snapshot_whole := by simp [hs]
  no_failure _ := he
  failure := by simp [hf]
  progress := by simp [hpc]
  fresh _ _ _ i := by simp [State.captureValid_eq, hcap, Capture.reset]
  page r hr := by simp [s.pageState_idle hpc] at hr
  byte_registers i _ := by simp [hcap, Capture.reset, hiByte]
  presented := hx

theorem resetBlock (h : s.Inv) : s.resetBlock.Inv :=
  of_rest rfl rfl rfl rfl rfl rfl ⟨rfl, rfl, rfl⟩ rfl h.presented

theorem seqStart (h : s.Inv) (hpc : s.seqPc = .idle) (a : BitVec 7) (b : Nat) : (s.seqStart a b).Inv where
  idle_rest := by simp
  request := by simpa [hpc] using h.request
  connection k hk := by
    obtain rfl := SeqPc.step.inj hk
    exact (h.idle_rest hpc).2
  snapshot_whole := by simp
  no_failure := by simp
  failure := by simp
  progress k hk _ i := by
    obtain rfl := SeqPc.step.inj hk
    simp
  fresh := by simp
  page r hr := by simp [State.pageState, railOfStep] at hr
  byte_registers i hi := by
    rw [State.seqStart_captures, clearValid_bits]
    exact h.byte_registers i hi
  presented := h.presented

/-! ## The two halves of a step -/

theorem issue (h : s.Inv) {k : Fin 24} (hpc : s.seqPc = .step k) : (s.issue (microprogram k)).Inv where
  idle_rest := by simp [hpc]
  request := by simp [hpc]; rfl
  connection := h.connection
  snapshot_whole := h.snapshot_whole
  no_failure := h.no_failure
  failure := h.failure
  progress := h.progress
  fresh := h.fresh
  page := h.page
  byte_registers := h.byte_registers
  presented := h.presented

/-- Step `k` is done and the next one is reached: the connection is held, the register of step `k` is valid
where it has one, and the page is that of the reads to come. -/
theorem advance (h : s.Inv) {k : Fin 24} (hpc : s.seqPc = .step k) (hk : k.val + 1 < 24)
    {conn : Bool} {cs : Vector Capture 17} {p : Option Byte} (hconn : conn = true)
    (hvalid : ∀ i : Fin 17, (cs[i.val]).valid = decide (captureStep i ≤ k))
    (hbyte : ∀ i : Fin 17, captureWidth i = 8 → hiByte (cs[i.val]).bits = 0)
    (hpage : ∀ r, railOfStep ⟨k.val + 1, hk⟩ = some r → p = some (pageIdx r)) :
    ({ s with waiting := false, reqPort := none, seqPc := nextPc k, connOpen := conn, captures := cs,
              devPage := p } : State).Inv where
  idle_rest := by simp [nextPc_of_lt k hk]
  request := by simp [nextPc_of_lt k hk]
  connection k' hk' := by
    rw [nextPc_of_lt k hk] at hk'
    obtain rfl := SeqPc.step.inj hk'
    exact hconn.trans (decide_eq_true (Fin.ne_of_val_ne (Nat.succ_ne_zero _))).symm
  snapshot_whole := by simp [h.snapValid_eq_false hpc]
  no_failure := h.no_failure
  failure := by simp [h.fail_eq_false hpc hk]
  progress k' hk' _ i := by
    rw [nextPc_of_lt k hk] at hk'
    obtain rfl := SeqPc.step.inj hk'
    refine (hvalid i).trans (decide_eq_decide.2 ?_)
    simp only [Fin.le_def, Fin.lt_def]
    omega
  fresh := by simp [nextPc_of_lt k hk]
  page r hr := hpage r ((State.pageState_eq_selected _ _ (nextPc_of_lt k hk) r).1 hr)
  byte_registers := hbyte
  presented := h.presented

/-- Step `k` fails: its failure is recorded, and all that is left is the CLOSE (R181, R226). -/
theorem abort (h : s.Inv) {k : Fin 24} (hpc : s.seqPc = .step k) {kind : FailKind} {rw : Bool}
    (hfits : abortFits kind k rw = true) (p : Option Byte) :
    ((s.taken.setDevPage p).seqAbort kind k rw).Inv := by
  have hk := lt_of_abortFits hfits
  have hdone := h.progress k hpc (h.fail_eq_false hpc hk)
  have hgo : k = 0 ∧ abortPc k = .idle ∨ k ≠ 0 ∧ abortPc k = .step 23 := by
    by_cases h0 : k = 0 <;> simp [abortPc, h0]
  constructor
  case idle_rest =>
    intro hidle
    rcases hgo with ⟨h0, -⟩ | ⟨-, hg⟩
    · exact ⟨rfl, by simp [h.connection k hpc, h0]⟩
    · simp [hg] at hidle
  case request => rcases hgo with ⟨-, hg⟩ | ⟨-, hg⟩ <;> simp [hg]
  case connection =>
    intro k' hk'
    rcases hgo with ⟨-, hg⟩ | ⟨h0, hg⟩ <;> simp [hg] at hk'
    simp [h.connection k hpc, h0, ← hk']
  case snapshot_whole => simp [h.snapValid_eq_false hpc]
  case no_failure => simp
  case failure =>
    intro _
    refine ⟨kind, k, rw, hfits, rfl, rfl, rfl, hdone, ?_⟩
    rcases hgo with ⟨-, hg⟩ | ⟨h0, hg⟩
    · exact .inl hg
    · exact .inr ⟨hg, h0⟩
  case progress => simp
  case fresh => simp
  case page =>
    intro r hr
    rcases hgo with ⟨-, hg⟩ | ⟨-, hg⟩ <;> simp [State.pageState, hg, railOfStep] at hr
  case byte_registers => exact h.byte_registers
  case presented => exact h.presented

/-- The CLOSE of a poll that failed: the failure stays recorded. -/
theorem close_of_fail (h : s.Inv) (hf : s.fail = true) : ((s.taken.setConn false).goto .idle).Inv where
  idle_rest _ := ⟨rfl, rfl⟩
  request := rfl
  connection := nofun
  snapshot_whole hv := by simpa [hf] using (h.snapshot_whole hv).2.1
  no_failure := h.no_failure
  failure _ := by
    obtain ⟨kind, k, rw, hfits, hcode, hstep, hrw, hvalid, -⟩ := h.failure hf
    exact ⟨kind, k, rw, hfits, hcode, hstep, hrw, hvalid, .inl rfl⟩
  progress := nofun
  fresh _ hf' := by simp [hf] at hf'
  page := nofun
  byte_registers := h.byte_registers
  presented := h.presented

/-- All registers are valid when a poll that runs well is at its CLOSE (R22). -/
theorem captureValid_of_close (h : s.Inv) (hpc : s.seqPc = .step 23) (hf : s.fail = false) (i : Fin 17) :
    s.captureValid i = true := by
  rw [h.progress 23 hpc hf i, decide_eq_true_eq]
  exact Nat.lt_succ_of_le (captureStep_bounds i).2

/-- The CLOSE of a poll that ran well: the snapshot becomes readable. -/
theorem close_of_ok (h : s.Inv) (hpc : s.seqPc = .step 23) (hf : s.fail = false) :
    ((s.taken.setConn false).seqDone.goto .idle).Inv where
  idle_rest _ := ⟨rfl, rfl⟩
  request := rfl
  connection := nofun
  snapshot_whole _ := ⟨rfl, hf, h.captureValid_of_close hpc hf⟩
  no_failure := h.no_failure
  failure := by simp [hf]
  progress := nofun
  fresh := by simp
  page := nofun
  byte_registers := h.byte_registers
  presented := h.presented

theorem respondClose (h : s.Inv) (hpc : s.seqPc = .step 23) : s.respondClose.Inv := by
  cases hf : s.fail with
  | true => rw [State.respondClose_of_fail hf]; exact h.close_of_fail hf
  | false => rw [State.respondClose_of_ok hf]; exact h.close_of_ok hpc hf

/-! ## The answers -/

/-- A register that step `k` does not write is valid exactly where its own step is done. -/
theorem captureValid_eq_le (h : s.Inv) {k : Fin 24} (hpc : s.seqPc = .step k) (hk : k.val + 1 < 24)
    {i : Fin 17} (hne : captureStep i ≠ k) : s.captureValid i = decide (captureStep i ≤ k) := by
  rw [h.progress k hpc (h.fail_eq_false hpc hk) i]
  exact decide_eq_decide.2 (lt_iff_le_and_ne.trans (and_iff_left hne))

theorem opened (h : s.Inv) (hpc : s.seqPc = .step 0) : ((s.taken.setConn true).goto (nextPc 0)).Inv :=
  h.advance hpc (by decide) rfl
    (fun i => h.captureValid_eq_le hpc (by decide) (captureStep_ne_zero i))
    h.byte_registers (fun r hr => by simp [railOfStep] at hr)

theorem read (h : s.Inv) (d : Fin 17) (hpc : s.seqPc = .step (captureStep d)) (v : Word) :
    ((s.taken.writeCapture d v).goto (nextPc (captureStep d))).Inv := by
  have hk := captureStep_succ_lt d
  refine h.advance hpc hk (by simp [h.connection _ hpc, captureStep_ne_zero])
    (fun i => ?valid) (fun i hi => ?bytes) (fun r hr => h.page r ?page)
  case valid =>
    refine (s.taken.captureValid_writeCapture d i v).trans ?_
    split
    case isTrue hdi => simp [hdi]
    case isFalse hdi =>
      exact h.captureValid_eq_le hpc hk fun he => hdi (captureStep_injective i d he).symm
  case bytes =>
    by_cases hdi : d = i
    · subst hdi
      simpa using hiByte_captureCut d v hi
    · have hsame := s.taken.captures_writeCapture_other d i v hdi
      rw [hsame]
      exact h.byte_registers i hi
  case page =>
    exact (State.pageState_eq_selected s _ hpc r).2 (railOfStep_succ_captureStep d r hk hr)

theorem paged (h : s.Inv) (r : Fin 5) (hpc : s.seqPc = .step (wrPageStep r)) :
    ((s.taken.setDevPage (some (pageIdx r))).goto (nextPc (wrPageStep r))).Inv := by
  have hk := wrPageStep_succ_lt r
  refine h.advance hpc hk (by simp [h.connection _ hpc, wrPageStep_ne_zero])
    (fun d => h.captureValid_eq_le hpc hk (captureStep_ne_wrPageStep d r)) h.byte_registers fun r' hr => ?_
  rw [← railOfStep_succ_wrPageStep r' r hk hr]; rfl

theorem answer (h : s.Inv) {k : Fin 24} {rsp : Response} (hpc : s.seqPc = .step k)
    (ha : Answer s rsp k t) : t.Inv := by
  cases ha with
  | opened _ => exact h.opened hpc
  | read d _ => exact h.read d hpc _
  | paged r _ => exact h.paged r hpc
  | closed => exact h.respondClose hpc
  | failed kind rw _ hfits _ => exact h.abort hpc hfits _

theorem of_move (h : s.Inv) (hm : Move s t) : t.Inv := by
  cases hm with
  | sampled x _ => exact h.sample x
  | reset _ => exact h.resetBlock.endTurn
  | started a b _ hpc => exact (h.seqStart hpc a b).endTurn
  | rested r => exact (h.setResult r).endTurn
  | issued k hpc _ => exact (h.issue hpc).endTurn
  | answered k rsp u hpc _ _ hu => exact (h.answer hpc hu).endTurn

end State.Inv

/-- Settles O45: after reset the sequencer is at rest. -/
theorem invariantHoldsAfterReset : Obligations.InvariantHoldsAfterReset :=
  State.Inv.of_rest rfl rfl rfl rfl rfl rfl ⟨rfl, rfl, rfl⟩ rfl nofun

/-- Settles O46: a step is a move, and every move keeps the invariant. -/
theorem everyStepKeepsTheInvariant : Obligations.EveryStepKeepsTheInvariant :=
  fun _ _ h hst => h.of_move (h.move hst)

end Sys2Proof.Machine
end

section
/-!
What a step does to the capture registers, to the latched configuration and to the snapshot, and what the
outputs say.
-/

namespace Sys2Proof.Machine

/-! ## Capture registers and configuration -/

/-- An answer leaves a register alone, or it is the answer to the register's own read. -/
theorem Answer.captures {s u : State} {rsp : Response} {k : Fin 24} (ha : Answer s rsp k u) (i : Fin 17) :
    u.captures[i.val] = s.captures[i.val] ∨
      (k = captureStep i ∧ succeeds (captureStep i) rsp = true ∧ u.captureValid i = true) := by
  cases ha with
  | opened _ => exact .inl rfl
  | read d hok =>
    by_cases hdi : d = i
    · subst hdi
      exact .inr ⟨rfl, hok, by simp [State.captureValid_eq]⟩
    · exact .inl (s.taken.captures_writeCapture_other d i _ hdi)
  | paged r _ => exact .inl rfl
  | closed => exact .inl (by cases hf : s.fail <;> simp [State.respondClose, hf])
  | failed _ _ _ _ _ => exact .inl rfl

theorem Answer.config {s u : State} {rsp : Response} {k : Fin 24} (ha : Answer s rsp k u) :
    u.devAddrQ = s.devAddrQ ∧ u.busIndexQ = s.busIndexQ := by
  cases ha with
  | opened _ => exact ⟨rfl, rfl⟩
  | read _ _ => exact ⟨rfl, rfl⟩
  | paged _ _ => exact ⟨rfl, rfl⟩
  | closed => cases hf : s.fail <;> simp [State.respondClose, hf]
  | failed _ _ _ _ _ => exact ⟨rfl, rfl⟩

/-- A register is not yet valid at its own step (R24). -/
theorem State.Inv.captureValid_own_step {s : State} (h : s.Inv) {i : Fin 17}
    (hpc : s.seqPc = .step (captureStep i)) : s.captureValid i = false := by
  simp [h.progress _ hpc (h.fail_eq_false hpc (captureStep_succ_lt i)) i]

/-- Settles O51, move by move: only an answer writes a register, only start and reset clear it. -/
theorem capturesAreWrittenByTheirStepOnly : Obligations.CapturesAreWrittenByTheirStepOnly := by
  intro s t i h hst
  cases h.move hst with
  | sampled _ _ => exact .inl rfl
  | reset hin => exact .inr (.inr ⟨by simp, .inr hin⟩)
  | started a b hin hpc => exact .inr (.inr ⟨by simp, .inl ⟨a, b, hpc, hin⟩⟩)
  | rested _ => exact .inl rfl
  | issued _ _ _ => exact .inl rfl
  | answered k rsp u hpc hw hin hu =>
    rcases hu.captures i with hsame | ⟨rfl, hok, hvalid⟩
    · exact .inl hsame
    · exact .inr (.inl ⟨rsp, hpc, hw, hin, hok, h.captureValid_own_step hpc, hvalid⟩)

/-- Settles O52, move by move: only start and reset write the latched registers. -/
theorem configurationIsLatchedForThePoll : Obligations.ConfigurationIsLatchedForThePoll := by
  intro s t h hst hne
  cases h.move hst with
  | sampled _ _ => simp at hne
  | reset hin => exact .inr hin
  | started a b hin hpc => exact .inl ⟨a, b, hpc, hin, rfl, rfl⟩
  | rested _ => simp at hne
  | issued _ _ _ => simp at hne
  | answered k rsp u _ _ _ hu => simp [hu.config] at hne

/-! ## Snapshot outputs -/

/-- A register read through the gate of R31 while the snapshot is readable. -/
theorem State.gated_of_valid {s : State} {i : Fin 17} {w : Word} (hs : s.snapValid = true)
    (hi : s.captures[i.val] = ⟨w, true⟩) : s.gated i = some w := by
  simp [State.gated, State.capture?, State.captureValid_eq, hs, hi]

theorem State.snapshot_eq_none {s : State} (hs : s.snapValid = false) : s.snapshot = none := by
  simp [State.snapshot, State.snapStatus, State.gated, hs]

theorem railLabel_eq_getD (r : Fin 5) :
    railLabel r = ["12V1", "12V2", "12V3", "5V", "3.3V"].getD r.val "" := by
  fin_cases r <;> rfl

/-- The voltage `V_r` of the registers `C` (R30). -/
def voltageOf (C : Fin 17 → Word) (r : Fin 5) : Dy :=
  voutDecode (loByte (C (vmodeReg r))) (hiByte (C (voutReg r))) (loByte (C (voutReg r)))

/-- The current `I_r` of the registers `C` (R30). -/
def currentOf (C : Fin 17 → Word) (r : Fin 5) : Dy :=
  lin11Decode (hiByte (C (ioutReg r))) (loByte (C (ioutReg r)))

/-- The reading of rail `r` from its voltage and its current (R30). -/
def railReading (r : Fin 5) (v i : Dy) : RailReading := ⟨railLabel r, enc64 v, enc64 i, enc64mul v i⟩

section Outputs

variable {s : State} {C : Fin 17 → Word} (hs : s.snapValid = true)
  (hC : ∀ i : Fin 17, s.captures[i.val] = ⟨C i, true⟩)
include hs hC

theorem State.snapStatus_eq : s.snapStatus = some (C 0) := State.gated_of_valid hs (hC 0)

theorem State.snapTemp_eq : s.snapTemp = some (enc64 (lin11Decode (hiByte (C 1)) (loByte (C 1)))) := by
  simp [State.snapTemp, State.gated_of_valid hs (hC 1)]

theorem State.rail_eq (r : Fin 5) : s.rail r = some (railReading r (voltageOf C r) (currentOf C r)) := by
  simp [State.rail, State.voltage, State.current, State.gated_of_valid hs (hC _), voltageOf, currentOf,
    railReading]

/-- The snapshot is whole: the rails stand in it in order, index 0 first (R31). -/
theorem State.snapshot_eq : s.snapshot = some ⟨C 0, enc64 (lin11Decode (hiByte (C 1)) (loByte (C 1))),
    (List.finRange 5).map fun r => railReading r (voltageOf C r) (currentOf C r)⟩ := by
  have hrails : (List.finRange 5).mapM s.rail =
      some ((List.finRange 5).map fun r => railReading r (voltageOf C r) (currentOf C r)) := by
    rw [funext (State.rail_eq hs hC)]
    exact List.mapM_pure
  simp [State.snapshot, State.snapStatus_eq hs hC, State.snapTemp_eq hs hC, hrails]

end Outputs

/-- Settles O54, by the rule for each output. -/
theorem snapshotOutputsDecodeTheRegisters : Obligations.SnapshotOutputsDecodeTheRegisters := by
  intro s C hs hC
  refine ⟨State.snapStatus_eq hs hC, State.snapTemp_eq hs hC, voltageOf C, currentOf C, ?_, ?_⟩
  · intro r m v i hm hv hi
    obtain rfl : m = vmodeReg r := Fin.ext hm
    obtain rfl : v = voutReg r := Fin.ext hv
    obtain rfl : i = ioutReg r := Fin.ext hi
    refine ⟨rfl, rfl, ?_⟩
    rw [State.rail_eq hs hC, railReading, railLabel_eq_getD]
  · exact State.snapshot_eq hs hC

/-! ## The snapshot, whole or absent -/

/-- With the invariant the snapshot is there exactly while `snap_valid` is 1 (R31). -/
theorem State.Inv.snapshot_isSome_iff {s : State} (h : s.Inv) :
    s.snapshot.isSome = true ↔ s.snapValid = true := by
  cases hs : s.snapValid with
  | false => simp [State.snapshot_eq_none hs]
  | true =>
    have hall := (h.snapshot_whole hs).2.2
    have hC : ∀ i : Fin 17, s.captures[i.val] = ⟨(s.captures[i.val]).bits, true⟩ := fun i => by
      rw [← hall i]; rfl
    simp [State.snapshot_eq hs (C := fun i => (s.captures[i.val]).bits) hC]

/-- An answer makes the snapshot readable only at the CLOSE of a poll that did not fail (R179, R180). -/
theorem Answer.closed_of_snapValid {s u : State} {rsp : Response} {k : Fin 24} (ha : Answer s rsp k u)
    (hs : s.snapValid = false) (hu : u.snapValid = true) :
    k = 23 ∧ s.fail = false ∧ u = (s.taken.setConn false).seqDone.goto .idle := by
  cases ha with
  | opened _ => simp [hs] at hu
  | read _ _ => simp [hs] at hu
  | paged _ _ => simp [hs] at hu
  | closed =>
    cases hf : s.fail with
    | true => simp [State.respondClose_of_fail hf, hs] at hu
    | false => exact ⟨rfl, rfl, State.respondClose_of_ok hf⟩
  | failed _ _ _ _ _ => simp [hs] at hu

/-- Settles O53: the snapshot is whole by the invariant, only the CLOSE raises `snap_valid`, and while it is 1
the sequencer is in IDLE, where only start and reset end it. -/
theorem snapshotsAreAllOrNothing : Obligations.SnapshotsAreAllOrNothing := by
  refine ⟨fun s h => h.snapshot_isSome_iff, fun s t h hst hs ht => ?raised, fun s t h hst hs => ?kept⟩
  case raised =>
    cases h.move hst with
    | sampled _ _ => simp [hs] at ht
    | reset _ => simp at ht
    | started _ _ _ _ => simp at ht
    | rested _ => simp [hs] at ht
    | issued _ _ _ => simp [hs] at ht
    | answered k rsp u hpc hw hin hu =>
      obtain ⟨rfl, hf, rfl⟩ := hu.closed_of_snapValid hs ht
      exact ⟨hpc, hw, ⟨rsp, hin⟩, hf, rfl, hf, h.captureValid_of_close hpc hf⟩
  case kept =>
    have hidle := (h.snapshot_whole hs).1
    cases h.move hst with
    | sampled _ _ => exact .inl ⟨hs, rfl⟩
    | reset hin => exact .inr ⟨rfl, .inr hin⟩
    | started a b hin _ => exact .inr ⟨rfl, .inl ⟨a, b, hin⟩⟩
    | rested _ => exact .inl ⟨hs, rfl⟩
    | issued _ hpc _ => simp [hidle] at hpc
    | answered _ _ _ hpc _ _ _ => simp [hidle] at hpc

/-! ## Reset values and `page_state` -/

/-- Settles O41: the reset state's fields, one by one. -/
theorem resetLeavesTable102 : Obligations.ResetLeavesTable102 :=
  ⟨rfl, rfl, fun i => by simp [State.captureValid_eq, State.reset, Capture.reset], rfl, rfl, rfl, rfl, rfl,
    rfl, rfl, State.snapshot_eq_none rfl⟩

theorem railOfStep_eq_some : ∀ (k : Fin 24) (r : Fin 5), railOfStep k = some r ↔
    k.val = 4 + 4 * r.val ∨ k.val = 5 + 4 * r.val ∨ k.val = 6 + 4 * r.val := by
  decide

theorem railOfStep_eq_none : ∀ k : Fin 24,
    k.val ∈ [0, 1, 2, 3, 7, 11, 15, 19, 23] ↔ railOfStep k = none := by
  decide

theorem State.pageState_eq_idle (s : State) (k : Fin 24) (hpc : s.seqPc = .step k) :
    s.pageState = .idle ↔ railOfStep k = none := by
  cases hr : railOfStep k <;> simp [State.pageState, hpc, hr]

/-- Settles O60: `page_state` is the rail of the step, and the rails' steps are a finite table. -/
theorem pageStateFollowsSeqPc : Obligations.PageStateFollowsSeqPc := fun s =>
  ⟨fun k r hpc => (s.pageState_eq_selected k hpc r).trans (railOfStep_eq_some k r), s.pageState_idle,
    fun k hpc => (railOfStep_eq_none k).trans (s.pageState_eq_idle k hpc).symm⟩

end Sys2Proof.Machine
end

section
/-!
Rows and micro-operations are enabled at their step only, and the step's equations by what is presented.
-/

namespace Sys2Proof.Machine

/-! ## Rows and micro-operations (R72, R175) -/

theorem State.runRow_of_pc {s : State} {k : Fin 24} (hpc : s.seqPc = .step k) :
    s.runRow k = .next (s.transition k (microprogram k)) :=
  if_pos hpc

theorem State.runRow_of_ne {s : State} {k : Fin 24} (hpc : s.seqPc ≠ .step k) :
    s.runRow k = .fault .notEnabled :=
  if_neg hpc

/-- Settles O32: row `k` is `runRow k`, which faults off step `k` and otherwise waits while unanswered. -/
theorem rowsRunOnlyAtTheirStep : Obligations.RowsRunOnlyAtTheirStep :=
  ⟨rfl, fun k s hpc => (exec_uromInstr k s).trans (State.runRow_of_ne hpc), fun k s hpc hw hr => by
    rw [exec_uromInstr, State.runRow_of_pc hpc, s.transition_wait k _ hw hr]⟩

theorem microprogram_eq_openRow {k : Fin 24} (h : microprogram k = Row.openRow) : k = 0 :=
  (microprogram_uop_openBus k).1 (congrArg Row.uop h)

theorem microprogram_eq_closeRow {k : Fin 24} (h : microprogram k = Row.closeRow) : k = 23 :=
  (microprogram_uop_closeBus k).1 (congrArg Row.uop h)

theorem microprogram_eq_rdRow {k : Fin 24} {c : Byte} {l : BitVec 2} {d : Fin 17}
    (h : microprogram k = Row.rdRow c l d) : k = captureStep d ∧ c = captureCmd d ∧ l = captureLen d := by
  obtain ⟨d', rfl⟩ := (microprogram_uop_rd k).1 (congrArg Row.uop h)
  obtain ⟨-, rfl, rfl, rfl, -⟩ := Row.mk.inj ((microprogram_captureStep d').symm.trans h)
  exact ⟨rfl, rfl, rfl⟩

theorem microprogram_eq_wrPageRow {k : Fin 24} {r : Fin 5} (h : microprogram k = Row.wrPageRow r) :
    k = wrPageStep r := by
  obtain ⟨r', rfl⟩ := (microprogram_uop_wrPage k).1 (congrArg Row.uop h)
  obtain ⟨-, -, -, -, rfl⟩ := Row.mk.inj ((microprogram_wrPageStep r').symm.trans h)
  rfl

/-- A micro-operation that is not the row `seq_pc` names is not enabled. -/
theorem State.runRowIf_of_ne {s : State} {r : Row} (h : ∀ k, microprogram k = r → s.seqPc ≠ .step k) :
    s.runRowIf r = .fault .notEnabled := by
  unfold State.runRowIf
  split
  case h_1 k hpc => exact if_neg fun hr => h k hr hpc
  case h_2 => rfl

/-- Settles O39: the operands of a micro-operation fix its one row, and elsewhere it is not enabled. -/
theorem microOperationsStopOutsideTheirRow : Obligations.MicroOperationsStopOutsideTheirRow := by
  refine fun s => ⟨fun hpc => State.runRowIf_of_ne ?openBus, fun c l d hout => State.runRowIf_of_ne ?rd,
    fun r hpc => State.runRowIf_of_ne ?wrPage, fun hpc => State.runRowIf_of_ne ?closeBus,
    fun hout => if_neg ?seqDone, fun _ _ _ hpc => if_neg hpc⟩
  case openBus => exact fun k hr => microprogram_eq_openRow hr ▸ hpc
  case rd =>
    intro k hr hk
    obtain ⟨rfl, hc, hl⟩ := microprogram_eq_rdRow hr
    rcases hout with hpc | hc' | hl'
    · exact hpc hk
    · exact hc' hc
    · exact hl' hl
  case wrPage => exact fun k hr => microprogram_eq_wrPageRow hr ▸ hpc
  case closeBus => exact fun k hr => microprogram_eq_closeRow hr ▸ hpc
  case seqDone =>
    rintro ⟨hpc, hf⟩
    rcases hout with hpc' | hf'
    · exact hpc' hpc
    · simp [hf] at hf'

/-! ## A step by what is presented -/

theorem step_of_none {s : State} (hin : s.input = none) :
    step s = .next (s.sample (Config.draw s.stream s.tick)) := by
  simp [step, hin]

theorem step_of_some {s : State} {x : Input} (hin : s.input = some x) :
    step s = endTurnOf (blockTurn s x) := by
  simp [step, hin]

theorem blockTurn_operate (s : State) {f : Format} {bytes rest : List Byte} {i : Instr}
    (hd : decode f bytes = .ok i rest) : blockTurn s (.operate f bytes) = exec i s := by
  simp [blockTurn, hd]

/-- With nothing or a response presented it is the sequencer's turn (R72, R175). -/
theorem step_of_sequencerTurn {s : State} (hin : s.input = some .quiet ∨ ∃ r, s.input = some (.response r)) :
    step s = endTurnOf (sequencerTurn s) := by
  rcases hin with hq | ⟨r, hr⟩
  · exact step_of_some hq
  · exact step_of_some hr

theorem sequencerTurn_of_step {s : State} {k : Fin 24} (hpc : s.seqPc = .step k) :
    sequencerTurn s = exec (uromInstr k) s := by
  simp [sequencerTurn, State.fetchRow, hpc]

theorem sequencerTurn_of_idle {s : State} (hpc : s.seqPc = .idle) : sequencerTurn s = .next s := by
  simp [sequencerTurn, State.fetchRow, hpc]

/-- Settles O43: the step's equations; the bytes of row `k` decode to row `k` and to nothing else. -/
theorem stepRunsTheDecodedInstruction : Obligations.StepRunsTheDecodedInstruction := by
  refine ⟨fun s f bytes rest i hin hd => ?operation, fun s k i hpc hin hd => ?row,
    fun s a b hin => step_of_some hin, fun s hpc hin => ?idle⟩
  case operation => rw [step_of_some hin, blockTurn_operate s hd]
  case row =>
    obtain ⟨rfl, -⟩ := Decoded.ok.inj ((decode_urom k).symm.trans hd)
    rw [step_of_sequencerTurn hin, sequencerTurn_of_step hpc]
  case idle => rw [step_of_sequencerTurn hin, sequencerTurn_of_idle hpc]; rfl

theorem admissible_ite_quiet (x : Input) : admissible (if admissible x then x else .quiet) = true := by
  split
  case isTrue h => exact h
  case isFalse => rfl

/-- Settles O44: with nothing presented a step is a sample of the next draw. -/
theorem environmentMovesChangeNothingElse : Obligations.EnvironmentMovesChangeNothingElse :=
  fun _ hin => ⟨_, rfl, admissible_ite_quiet _, step_of_none hin⟩

end Sys2Proof.Machine
end

section
/-!
The decoder answers well-formed instructions only (R130, R143, Table 10-1, Table 60-1): a lemma for each operation
whose operands are checked, and the dispatch on the ordinal and on the table.
-/

namespace Sys2Proof

open Machine

/-- An answer of the decoder is a refusal or an instruction with operands the spec allows. -/
def Decoded.Sound : Decoded → Prop
  | .ok i _ => i.WellFormed
  | .bad _ => True

/-! ## Readings of the fields -/

theorem expOf_bounds (raw : BitVec 5) : -16 ≤ expOf raw ∧ expOf raw ≤ 15 := by
  revert raw; decide

theorem mantOf_bounds (raw : BitVec 11) : -1024 ≤ mantOf raw ∧ mantOf raw ≤ 1023 := by
  have hlt := raw.isLt
  have hbit : raw.toNat.testBit 10 = decide (1024 ≤ raw.toNat) := by
    rw [Nat.testBit_eq_decide_div_mod_eq]
    exact decide_eq_decide.2 (by omega)
  simp only [mantOf, signRec, hbit, decide_eq_true_eq]
  split <;> omega

theorem isVoutResult_voutDecode (mode hi lo : Byte) : isVoutResult (voutDecode mode hi lo) = true := by
  have hexp := expOf_bounds (vmodeExpRaw mode)
  have hword := (catBytes hi lo).isLt
  exact decide_eq_true (by dsimp only [voutDecode]; omega)

theorem isLin11Result_lin11Decode (hi lo : Byte) : isLin11Result (lin11Decode hi lo) = true := by
  have hexp := expOf_bounds (lin11ExpRaw (catBytes hi lo))
  have hmant := mantOf_bounds (lin11MantRaw (catBytes hi lo))
  exact decide_eq_true ⟨hmant.1, hmant.2, hexp⟩

/-! ## Operations whose operands are checked -/

theorem wellFormed_signRec {w : SignWidth} {n : Nat} (h : n < 2 ^ w.bits) :
    (Instr.signRec w (BitVec.ofNat 11 n)).WellFormed := by
  have hle : (BitVec.ofNat 11 n).toNat ≤ n := (BitVec.toNat_ofNat n 11).trans_le (Nat.mod_le _ _)
  exact decide_eq_true (hle.trans_lt h)

theorem decodeSignRec_sound (bs : List Byte) : (decodeSignRec bs).Sound := by
  unfold decodeSignRec
  split
  · dsimp only
    split_ifs with h5 h11
    · exact wellFormed_signRec h5.2
    · exact wellFormed_signRec h11.2
    · trivial
  · trivial

theorem decodeF64Mul_sound (bs : List Byte) : (decodeF64Mul bs).Sound := by
  unfold decodeF64Mul
  split
  · exact (Bool.and_eq_true _ _).mpr ⟨isVoutResult_voutDecode _ _ _, isLin11Result_lin11Decode _ _⟩
  · trivial

theorem wellFormed_rd (d : Fin 17) : (Instr.rd (captureCmd d) (captureLen d) d).WellFormed :=
  (Bool.and_eq_true _ _).mpr ⟨decide_eq_true rfl, decide_eq_true rfl⟩

theorem decodeRd_sound (bs : List Byte) : (decodeRd bs).Sound := by
  unfold decodeRd
  split
  · split
    · exact wellFormed_rd _
    · trivial
  · trivial

theorem decodeSeqAbort_sound (bs : List Byte) : (decodeSeqAbort bs).Sound := by
  unfold decodeSeqAbort
  split
  · split
    · trivial
    · split_ifs with _ hrow
      · exact hrow.2
      · trivial
      · trivial
  · trivial

/-! ## Dispatch on the ordinal -/

theorem decodeOp_sound (bs : List Byte) : (decodeOp bs).Sound := by
  unfold decodeOp
  split
  case h_1 => trivial
  case h_2 b bs =>
    split
    case h_4 => exact decodeSignRec_sound bs
    case h_7 => exact decodeF64Mul_sound bs
    case h_11 => exact decodeRd_sound bs
    case h_15 => exact decodeSeqAbort_sound bs
    case h_1 => unfold decodePecStep; split <;> trivial
    case h_2 => unfold decodePecChain; split <;> trivial
    case h_3 => unfold decodePecCheck; (repeat' split) <;> trivial
    case h_5 => unfold decodeLin11Dec; split <;> trivial
    case h_6 => unfold decodeVoutDec; split <;> trivial
    case h_8 => unfold decodePageBuild; (repeat' split) <;> trivial
    case h_9 => unfold decodeSeqStart; (repeat' split) <;> trivial
    case h_12 => unfold decodeWrPage; (repeat' split) <;> trivial
    all_goals trivial

/-! ## Tables and the dispatch on the table -/

theorem wellFormed_of_commandInstr {n : Nat} {i : Instr} (h : commandInstr n = some i) : i.WellFormed := by
  unfold commandInstr at h
  split at h <;> cases h <;> rfl

theorem wellFormed_of_pageInstr {n : Nat} {i : Instr} (h : pageInstr n = some i) : i.WellFormed := by
  unfold pageInstr at h
  split at h <;> cases h <;> rfl

theorem wellFormed_uromInstr : ∀ k : Fin 24, (uromInstr k).WellFormed := by decide

theorem decodeCmd8_sound (bs : List Byte) : (decodeCmd8 bs).Sound := by
  unfold decodeCmd8
  split
  · split
    · exact wellFormed_of_commandInstr ‹_›
    · trivial
  · trivial

theorem decodePage8_sound (bs : List Byte) : (decodePage8 bs).Sound := by
  unfold decodePage8
  split
  · split
    · exact wellFormed_of_pageInstr ‹_›
    · trivial
  · trivial

theorem decodeUrom_sound (bs : List Byte) : (decodeUrom bs).Sound := by
  unfold decodeUrom
  split
  · split
    · exact wellFormed_uromInstr _
    · trivial
  · trivial

theorem decode_sound (f : Format) (bs : List Byte) : (decode f bs).Sound := by
  unfold decode
  split
  case h_1 => exact decodeOp_sound bs
  case h_9 => exact decodeCmd8_sound bs
  case h_10 => exact decodePage8_sound bs
  case h_11 => exact decodeUrom_sound bs
  case h_2 => unfold decodeFmtLin11; split <;> trivial
  case h_3 => unfold decodeFmtVmode; split <;> trivial
  case h_4 => unfold decodeFmtVout16; split <;> trivial
  case h_5 => unfold decodeFmtPagebuf; split <;> trivial
  case h_6 => unfold decodeFmtPecmsg; (repeat' split) <;> trivial
  case h_7 => unfold decodeFmtStatus16; split <;> trivial
  case h_8 => unfold decodeFmtF64; split <;> trivial

theorem wellFormed_of_decode {f : Format} {bs rest : List Byte} {i : Instr} (hd : decode f bs = .ok i rest) :
    i.WellFormed := by
  have h := decode_sound f bs
  rwa [hd] at h

end Sys2Proof
end

section
/-!
Progress: whatever is presented to a state with the invariant, the step answers a next state (R57).
-/

namespace Sys2Proof.Machine

/-- A function-unit operation, a format or a constant with operands the spec allows answers always (R254). -/
theorem exec_of_wellFormed (i : Instr) (s : State) (hop : isSequencerOp i = false) (hwf : i.WellFormed) :
    ∃ r, exec i s = .next (s.setResult r) := by
  cases i with
  | signRec w raw => exact ⟨_, if_pos (of_decide_eq_true hwf)⟩
  | f64Mul a b => exact ⟨_, if_pos hwf⟩
  | seqStart _ _ | openBus | rd _ _ _ | wrPage _ | closeBus | seqDone | seqAbort _ _ _ => cases hop
  | urom00 | urom01 | urom02 | urom03 | urom04 | urom05 | urom06 | urom07
  | urom08 | urom09 | urom10 | urom11 | urom12 | urom13 | urom14 | urom15
  | urom16 | urom17 | urom18 | urom19 | urom20 | urom21 | urom22 | urom23 => cases hop
  | _ => exact ⟨_, rfl⟩

theorem sequencerTurn_answers (s : State) : ∃ t, sequencerTurn s = .next t := by
  cases hpc : s.seqPc with
  | idle => exact ⟨_, sequencerTurn_of_idle hpc⟩
  | step k =>
    exact ⟨_, (sequencerTurn_of_step hpc).trans ((exec_uromInstr k s).trans (State.runRow_of_pc hpc))⟩

theorem exec_seqStart_answers (a : BitVec 7) (b : Nat) (s : State) : ∃ t, exec (.seqStart a b) s = .next t := by
  by_cases hpc : s.seqPc = .idle
  · exact ⟨_, if_pos hpc⟩
  · exact ⟨_, if_neg hpc⟩

/-- The block answers every move the environment can make. -/
theorem blockTurn_answers (s : State) {x : Input} (hx : admissible x = true) :
    ∃ t, blockTurn s x = .next t := by
  cases x with
  | quiet => exact sequencerTurn_answers s
  | reset => exact ⟨_, rfl⟩
  | start a b => exact exec_seqStart_answers a b s
  | response _ => exact sequencerTurn_answers s
  | operate f bytes =>
    cases hd : decode f bytes with
    | ok i rest =>
      rw [blockTurn_operate s hd]
      obtain ⟨r, hr⟩ := exec_of_wellFormed i s (admissible_operate hd hx) (wellFormed_of_decode hd)
      exact ⟨_, hr⟩
    | bad r => simp [admissible, hd] at hx

/-- Settles O47: what is presented is admissible by the invariant, and every admissible move is answered. -/
theorem theBlockNeverStops : Obligations.TheBlockNeverStops := by
  intro s h
  cases hin : s.input with
  | none => exact ⟨_, step_of_none hin⟩
  | some x =>
    obtain ⟨t, ht⟩ := blockTurn_answers s (h.presented x hin)
    exact ⟨t.endTurn, by rw [step_of_some hin, ht]; rfl⟩

end Sys2Proof.Machine
end

section
/-!
What the request port shows: by the invariant the request of the row `seq_pc` names, and each row's request is one
of the accesses of Table 20-1, OPEN or CLOSE (R52 to R55, R61).
-/

namespace Sys2Proof.Machine

theorem State.Inv.reqPort_eq_some {s : State} (h : s.Inv) {q : Request} (hq : s.reqPort = some q) :
    ∃ k, s.seqPc = .step k ∧ s.waiting = true ∧ q = s.rowRequest (microprogram k) := by
  have hreq := h.request
  rw [hq] at hreq
  cases hpc : s.seqPc with
  | idle => simp [hpc] at hreq
  | step k =>
    cases hw : s.waiting with
    | false => simp [hpc, hw] at hreq
    | true => exact ⟨k, rfl, rfl, by simpa [hpc, hw] using hreq⟩

/-! ## The requests of the rows -/

theorem State.rowRequest_openBus (s : State) :
    s.rowRequest (microprogram 0) = ⟨.openReq, s.busIndexQ, s.devAddrQ, 0, 0, 0⟩ := rfl

theorem State.rowRequest_rd (s : State) (d : Fin 17) :
    s.rowRequest (microprogram (captureStep d)) =
      ⟨.readReq, 0, s.devAddrQ, captureCmd d, captureLen d, 0⟩ := by
  rw [microprogram_captureStep]; rfl

theorem State.rowRequest_wrPage (s : State) (r : Fin 5) :
    s.rowRequest (microprogram (wrPageStep r)) = ⟨.writeReq, 0, s.devAddrQ, 0x00, 2,
      pagebufWord (pageIdx r) (pagePec s.devAddrQ 0x00 (pageIdx r))⟩ := by
  rw [microprogram_wrPageStep]; rfl

theorem State.rowRequest_closeBus (s : State) :
    s.rowRequest (microprogram 23) = ⟨.closeReq, 0, s.devAddrQ, 0, 0, 0⟩ := rfl

theorem State.rowRequest_addr (s : State) (r : Row) : (s.rowRequest r).addr = s.devAddrQ := by
  unfold State.rowRequest
  split <;> rfl

/-! ## Table 20-1 and Table 30-3 -/

/-- The twelve command codes of Table 30-3 (R90). -/
def commandCodes : List Byte :=
  [0x79, 0x88, 0x90, 0x8D, 0x8E, 0x8C, 0x89, 0x96, 0x97, 0x20, 0x8B, 0x00]

theorem zero_mem_commandCodes : (0 : Byte) ∈ commandCodes := by decide

theorem bbTempCmd_mem : Config.bbTempCmd ∈ commandCodes := by
  unfold Config.bbTempCmd
  cases Config.tempCmd <;> decide

theorem bbTempCmd_not_mem : Config.bbTempCmd ∉ ([0x79, 0x00, 0x20, 0x8B, 0x8C] : List Byte) := by
  unfold Config.bbTempCmd
  cases Config.tempCmd <;> decide

/-- The reads of Table 20-1, code and length. -/
theorem captureCmd_captureLen (d : Fin 17) : (captureCmd d = Config.bbTempCmd ∧ captureLen d = 2) ∨
    (captureCmd d = 0x79 ∧ captureLen d = 2) ∨ (captureCmd d = 0x20 ∧ captureLen d = 1) ∨
    (captureCmd d = 0x8B ∧ captureLen d = 2) ∨ (captureCmd d = 0x8C ∧ captureLen d = 2) := by
  by_cases hd : d = 1
  · subst hd
    exact .inl ⟨rfl, rfl⟩
  · right
    revert d
    decide

theorem captureCmd_mem (d : Fin 17) : captureCmd d ∈ commandCodes := by
  rcases captureCmd_captureLen d with h | h | h | h | h <;> rw [h.1]
  · exact bbTempCmd_mem
  all_goals decide

theorem tableRequest_rd (a : BitVec 7) (d : Fin 17) :
    tableRequest ⟨.readReq, 0, a, captureCmd d, captureLen d, 0⟩ = true := by
  have hread := captureCmd_captureLen d
  simp only [tableRequest, Bool.and_eq_true, Bool.or_eq_true, decide_eq_true_eq]
  tauto

theorem tableRequest_wrPage (a : BitVec 7) (r : Fin 5) :
    tableRequest ⟨.writeReq, 0, a, 0x00, 2, pagebufWord (pageIdx r) (pagePec a 0x00 (pageIdx r))⟩ = true := by
  simp only [tableRequest, Bool.and_eq_true, List.any_eq_true, decide_eq_true_eq]
  exact ⟨⟨trivial, trivial, trivial⟩, r, List.mem_finRange r, rfl⟩

/-- Every row's request is an access of Table 20-1, OPEN or CLOSE, and its code is one of Table 30-3. -/
theorem State.rowRequest_access (s : State) (k : Fin 24) :
    tableRequest (s.rowRequest (microprogram k)) = true ∧
      (s.rowRequest (microprogram k)).cmd ∈ commandCodes := by
  cases hu : (microprogram k).uop with
  | openBus =>
    obtain rfl := (microprogram_uop_openBus k).1 hu
    rw [s.rowRequest_openBus]
    exact ⟨rfl, zero_mem_commandCodes⟩
  | rd =>
    obtain ⟨d, rfl⟩ := (microprogram_uop_rd k).1 hu
    rw [s.rowRequest_rd d]
    exact ⟨tableRequest_rd _ d, captureCmd_mem d⟩
  | wrPage =>
    obtain ⟨r, rfl⟩ := (microprogram_uop_wrPage k).1 hu
    rw [s.rowRequest_wrPage r]
    exact ⟨tableRequest_wrPage _ r, zero_mem_commandCodes⟩
  | closeBus =>
    obtain rfl := (microprogram_uop_closeBus k).1 hu
    rw [s.rowRequest_closeBus]
    exact ⟨rfl, zero_mem_commandCodes⟩

/-- Settles O49: the port shows the request of the row at hand, whose accesses are Table 20-1's. -/
theorem requestsAreTable201 : Obligations.RequestsAreTable201 := by
  refine ⟨fun s q h hq => ?_, bbTempCmd_not_mem⟩
  obtain ⟨k, hpc, hw, rfl⟩ := h.reqPort_eq_some hq
  obtain ⟨htable, hcmd⟩ := s.rowRequest_access k
  exact ⟨htable, s.rowRequest_addr _, hw, by simp [hpc], fun _ => hcmd⟩

end Sys2Proof.Machine
end

section
/-!
The fields and readings of the seven data formats, and the instructions of all tables read back from their encodings
(R81 to R87, R98).
-/

namespace Sys2Proof

open Machine

/-! ## Readings -/

/-- SIGN.REC is the two's complement reading, at every width (R130). -/
theorem signRec_toNat {w : Nat} (x : BitVec w) : signRec w x.toNat = x.toInt := by
  rw [BitVec.toInt_eq_msb_cond, BitVec.msb_eq_getLsbD_last]
  rfl

theorem expOf_eq_toInt (e : BitVec 5) : expOf e = e.toInt := signRec_toNat e

theorem mantOf_eq_toInt (m : BitVec 11) : mantOf m = m.toInt := signRec_toNat m

theorem expOf_ofInt {e : Int} (hlo : -16 ≤ e) (hhi : e ≤ 15) : expOf (BitVec.ofInt 5 e) = e := by
  rw [expOf_eq_toInt]
  exact BitVec.toInt_ofInt_eq_self (by decide) hlo (by omega)

theorem mantOf_ofInt {m : Int} (hlo : -1024 ≤ m) (hhi : m ≤ 1023) : mantOf (BitVec.ofInt 11 m) = m := by
  rw [mantOf_eq_toInt]
  exact BitVec.toInt_ofInt_eq_self (by decide) hlo (by omega)

/-! ## Fields of the formats -/

theorem lin11ExpRaw_append (e : BitVec 5) (m : BitVec 11) : lin11ExpRaw (e ++ m) = e := extract_append_hi e m

theorem lin11MantRaw_append (e : BitVec 5) (m : BitVec 11) : lin11MantRaw (e ++ m) = m := extract_append_lo e m

theorem lin11ExpRaw_toNat (w : Word) : (lin11ExpRaw w).toNat = w.toNat / 2048 := by
  have := w.isLt
  simp only [lin11ExpRaw, BitVec.extractLsb'_toNat, Nat.shiftRight_eq_div_pow]
  omega

theorem lin11MantRaw_toNat (w : Word) : (lin11MantRaw w).toNat = w.toNat % 2048 := by
  simp [lin11MantRaw]

theorem vmodeExpRaw_toNat (b : Byte) : (vmodeExpRaw b).toNat = b.toNat % 32 := by
  simp [vmodeExpRaw]

theorem vmodeExpRaw_setWidth (e : BitVec 5) : vmodeExpRaw (e.setWidth 8) = e := by
  have := e.isLt
  apply BitVec.eq_of_toNat_eq
  rw [vmodeExpRaw_toNat, BitVec.toNat_setWidth]
  omega

/-- The sign of a binary64 pattern (R87). -/
theorem f64Sign_toNat (v : BitVec 64) : (v.extractLsb' 63 1).toNat = v.toNat / 2 ^ 63 := by
  have := v.isLt
  rw [BitVec.extractLsb'_toNat, Nat.shiftRight_eq_div_pow]
  omega

/-- The biased exponent of a binary64 pattern (R87). -/
theorem f64Exponent_toNat (v : BitVec 64) : (v.extractLsb' 52 11).toNat = v.toNat / 2 ^ 52 % 2 ^ 11 := by
  rw [BitVec.extractLsb'_toNat, Nat.shiftRight_eq_div_pow]

/-- The fraction of a binary64 pattern (R87). -/
theorem f64Fraction_toNat (v : BitVec 64) : (v.extractLsb' 0 52).toNat = v.toNat % 2 ^ 52 := by
  rw [BitVec.extractLsb'_toNat, Nat.shiftRight_zero]

/-- The byte `addr << 1` as R161 writes it. -/
theorem addrByte_eq_ofNat (a : BitVec 7) : addrByte a = BitVec.ofNat 8 (2 * a.toNat) := by
  have := a.isLt
  apply BitVec.eq_of_toNat_eq
  rw [addrByte, toNat_append_eq, BitVec.toNat_ofNat]
  simp
  omega

theorem getLsbD_zero_addrByte (a : BitVec 7) : (addrByte a).getLsbD 0 = false := by
  rw [addrByte, BitVec.getLsbD_append]
  rfl

theorem extract_addrByte (a : BitVec 7) : (addrByte a).extractLsb' 1 7 = a := extract_append_hi a 0

theorem pagebufWord_eq_ofNat (p c : Byte) : pagebufWord p c = BitVec.ofNat 16 (c.toNat * 256 + p.toNat) := by
  rw [pagebufWord, ← catBytes_toNat, BitVec.ofNat_toNat, BitVec.setWidth_eq]

/-- Eight bytes of a pattern, put together again. -/
theorem catBytes8_bytes8 (v : BitVec 64) :
    catBytes8 (v.extractLsb' 0 8) (v.extractLsb' 8 8) (v.extractLsb' 16 8) (v.extractLsb' 24 8)
      (v.extractLsb' 32 8) (v.extractLsb' 40 8) (v.extractLsb' 48 8) (v.extractLsb' 56 8) = v := by
  have := v.isLt
  apply BitVec.eq_of_toNat_eq
  simp only [catBytes8, toNat_append_eq, BitVec.extractLsb'_toNat, Nat.shiftRight_eq_div_pow]
  omega

/-! ## The formats' decoders, on the bytes of a whole word -/

theorem decode_lin11 (w : Word) (rest : List Byte) :
    decode .lin11 (loByte w :: hiByte w :: rest) = .ok (.fmtLin11 (lin11ExpRaw w) (lin11MantRaw w)) rest := by
  simp [decode, decodeFmtLin11]

theorem decode_vout16 (w : Word) (rest : List Byte) :
    decode .vout16 (loByte w :: hiByte w :: rest) = .ok (.fmtVout16 w) rest := by
  simp [decode, decodeFmtVout16]

theorem decode_status16 (w : Word) (rest : List Byte) :
    decode .status16 (loByte w :: hiByte w :: rest) = .ok (.fmtStatus16 w) rest := by
  simp [decode, decodeFmtStatus16]

theorem decode_pecmsg (a : BitVec 7) (k p : Byte) (rest : List Byte) :
    decode .pecmsg (addrByte a :: k :: p :: rest) = .ok (.fmtPecmsg a k p) rest := by
  simp only [decode, decodeFmtPecmsg, getLsbD_zero_addrByte, extract_addrByte, Bool.false_eq_true, if_false]

theorem decode_f64 (v : BitVec 64) (rest : List Byte) : decode .f64 (bytes8 v ++ rest) =
    .ok (.fmtF64 (v.extractLsb' 63 1) (v.extractLsb' 52 11) (v.extractLsb' 0 52)) rest := by
  simp [decode, decodeFmtF64, bytes8, catBytes8_bytes8]

/-- Settles O20: the decoders' fields as numbers, and sign recovery as the two's complement reading. -/
theorem numericFormatsReadTheirFields : Obligations.NumericFormatsReadTheirFields := by
  refine ⟨fun w s => ⟨_, _, decode_lin11 w [], lin11ExpRaw_toNat w, lin11MantRaw_toNat w, ?lin11⟩,
    fun b s => ⟨_, _, rfl, vmodeExpRaw_toNat b, ?vmode⟩, fun w s => ⟨decode_vout16 w [], rfl⟩⟩
  case lin11 => rw [← expOf_eq_toInt, ← mantOf_eq_toInt]; rfl
  case vmode => rw [← expOf_eq_toInt]; rfl

/-- Settles O21: the decoders' fields as numbers. -/
theorem byteFormatsReadTheirFields : Obligations.ByteFormatsReadTheirFields := by
  refine ⟨fun p c s => ⟨rfl, ?pagebuf⟩, fun a k p s => ?pecmsg, fun w s => ⟨decode_status16 w [], rfl⟩,
    fun v s => ⟨_, _, _, decode_f64 v [], f64Sign_toNat v, f64Exponent_toNat v, f64Fraction_toNat v, rfl⟩⟩
  case pagebuf => rw [← pagebufWord_eq_ofNat]; rfl
  case pecmsg =>
    rw [← addrByte_eq_ofNat]
    exact ⟨decode_pecmsg a k p [], rfl⟩

/-! ## Operands of the operations -/

/-- The operand bytes of SIGN.REC hold its field. -/
theorem catBytes_signRec_toNat (raw : BitVec 11) :
    (catBytes ((raw.extractLsb' 8 3).setWidth 8) (raw.setWidth 8)).toNat = raw.toNat := by
  have := raw.isLt
  simp only [catBytes_toNat, BitVec.toNat_setWidth, BitVec.extractLsb'_toNat, Nat.shiftRight_eq_div_pow]
  omega

theorem toNat_setWidth_addr_lt (a : BitVec 7) : (a.setWidth 8).toNat < 128 := by
  have := a.isLt
  rw [BitVec.toNat_setWidth]
  omega

/-- The operand bytes of a VOUT.DEC result are read back as that result (R138). -/
theorem voutDecode_voutOperand {v : Dy} (h : isVoutResult v = true) :
    voutDecode ((BitVec.ofInt 5 v.e).setWidth 8) (hiByte (BitVec.ofInt 16 v.m)) (loByte (BitVec.ofInt 16 v.m)) =
      v := by
  obtain ⟨hm0, hm, he0, he⟩ := of_decide_eq_true h
  have hword : ((BitVec.ofInt 16 v.m).toNat : Int) = v.m := by
    rw [BitVec.toNat_ofInt]
    omega
  rw [voutDecode, catBytes_hiByte_loByte, hword, vmodeExpRaw_setWidth, expOf_ofInt he0 he]

/-- The operand bytes of a LIN11.DEC result are read back as that result (R139). -/
theorem lin11Decode_encode11 {v : Dy} (h : isLin11Result v = true) :
    lin11Decode (hiByte (encode11 v.m v.e)) (loByte (encode11 v.m v.e)) = v := by
  obtain ⟨hm0, hm, he0, he⟩ := of_decide_eq_true h
  rw [lin11Decode, catBytes_hiByte_loByte, encode11, lin11ExpRaw_append, lin11MantRaw_append,
    expOf_ofInt he0 he, mantOf_ofInt hm0 hm]

/-- An index of one of the constant tables, as a byte. -/
theorem toNat_ofNat_val {n : Nat} (hn : n ≤ 256) (k : Fin n) : (BitVec.ofNat 8 k.val).toNat = k.val := by
  rw [BitVec.toNat_ofNat]
  exact Nat.mod_eq_of_lt (k.isLt.trans_le hn)

theorem failKindOf_failKindByte (kind : FailKind) : failKindOf (failKindByte kind).toNat = some kind := by
  cases kind <;> rfl

/-! ## Every instruction is read back -/

/-- The encoding of `i`, followed by any bytes, is read back as `i` and those bytes. -/
def ReadsBack (i : Instr) : Prop := ∀ rest, decode (formatOf i) (encode i ++ rest) = .ok i rest

theorem readsBack_pecChain (bs : List Byte) : ReadsBack (.pecChain bs) := by
  intro rest
  change decodePecChain (putSequence bs ++ rest) = _
  rw [decodePecChain, takeSequence_putSequence]

theorem readsBack_pecCheck (bs : List Byte) (pec : Byte) : ReadsBack (.pecCheck bs pec) := by
  intro rest
  change decodePecCheck (pec :: (putSequence bs ++ rest)) = _
  rw [decodePecCheck, takeSequence_putSequence]

theorem readsBack_signRec {w : SignWidth} {raw : BitVec 11} (h : (Instr.signRec w raw).WellFormed) :
    ReadsBack (.signRec w raw) := by
  intro rest
  have hfits : raw.toNat < 2 ^ w.bits := of_decide_eq_true h
  cases w with
  | five =>
    change decodeSignRec (0x00 :: raw.setWidth 8 :: (raw.extractLsb' 8 3).setWidth 8 :: rest) = _
    simp [decodeSignRec, catBytes_signRec_toNat, show raw.toNat < 32 from hfits]
  | eleven =>
    change decodeSignRec (0x01 :: raw.setWidth 8 :: (raw.extractLsb' 8 3).setWidth 8 :: rest) = _
    simp [decodeSignRec, catBytes_signRec_toNat, show raw.toNat < 2048 from hfits]

theorem readsBack_f64Mul {a b : Dy} (h : (Instr.f64Mul a b).WellFormed) : ReadsBack (.f64Mul a b) := by
  intro rest
  obtain ⟨ha, hb⟩ := (Bool.and_eq_true _ _).mp h
  change Decoded.ok (.f64Mul (voutDecode _ _ _) (lin11Decode _ _)) rest = _
  rw [voutDecode_voutOperand ha, lin11Decode_encode11 hb]

theorem readsBack_pageBuild (a : BitVec 7) (c p : Byte) : ReadsBack (.pageBuild a c p) := by
  intro rest
  change decodePageBuild (a.setWidth 8 :: c :: p :: rest) = _
  rw [decodePageBuild, if_pos (toNat_setWidth_addr_lt a), BitVec.setWidth_setWidth_of_le a (by decide),
    BitVec.setWidth_eq]

theorem readsBack_seqStart (a : BitVec 7) (n : Nat) : ReadsBack (.seqStart a n) := by
  intro rest
  change decodeSeqStart (a.setWidth 8 :: (putSequence (bytesOfNat n n) ++ rest)) = _
  rw [decodeSeqStart, if_pos (toNat_setWidth_addr_lt a), takeSequence_putSequence]
  simp only [natOfBytes_bytesOfNat n n le_rfl, BitVec.setWidth_setWidth_of_le a (by decide : 7 ≤ 8),
    BitVec.setWidth_eq]

theorem readsBack_rd {c : Byte} {l : BitVec 2} {d : Fin 17} (h : (Instr.rd c l d).WellFormed) :
    ReadsBack (.rd c l d) := by
  intro rest
  obtain ⟨hl, hc⟩ := (Bool.and_eq_true _ _).mp h
  obtain rfl := of_decide_eq_true hl
  obtain rfl := of_decide_eq_true hc
  change decodeRd (BitVec.ofNat 8 d.val :: rest) = _
  simp only [decodeRd, toNat_ofNat_val (by decide) d, d.isLt, dif_pos]

theorem readsBack_wrPage (r : Fin 5) : ReadsBack (.wrPage r) := by
  intro rest
  change decodeWrPage (BitVec.ofNat 8 r.val :: rest) = _
  simp only [decodeWrPage, toNat_ofNat_val (by decide) r, r.isLt, dif_pos]

theorem readsBack_seqAbort {kind : FailKind} {k : Fin 24} {rw : Bool}
    (h : (Instr.seqAbort kind k rw).WellFormed) : ReadsBack (.seqAbort kind k rw) := by
  intro rest
  have hrow : abortFits kind k rw = true := h
  change decodeSeqAbort (failKindByte kind :: BitVec.ofNat 8 k.val :: (if rw then 0x01 else 0x00) :: rest) = _
  simp only [decodeSeqAbort, failKindOf_failKindByte, toNat_ofNat_val (by decide) k, k.isLt, dif_pos]
  cases rw <;> simp [hrow]

theorem readsBack_fmtLin11 (e : BitVec 5) (m : BitVec 11) : ReadsBack (.fmtLin11 e m) := by
  intro rest
  have h := decode_lin11 (e ++ m) rest
  rwa [lin11ExpRaw_append, lin11MantRaw_append] at h

theorem readsBack_fmtVmode (x : BitVec 3) (e : BitVec 5) : ReadsBack (.fmtVmode x e) := by
  intro rest
  change Decoded.ok (.fmtVmode ((x ++ e).extractLsb' 5 3) ((x ++ e).extractLsb' 0 5)) rest = _
  rw [extract_append_hi, extract_append_lo]

theorem readsBack_fmtF64 (sg : BitVec 1) (e : BitVec 11) (f : BitVec 52) : ReadsBack (.fmtF64 sg e f) := by
  intro rest
  have he := e.isLt
  have hf := f.isLt
  have hsign : (sg ++ e ++ f).extractLsb' 63 1 = sg := by
    apply BitVec.eq_of_toNat_eq
    rw [f64Sign_toNat, toNat_append_eq, toNat_append_eq]
    omega
  have hexp : (sg ++ e ++ f).extractLsb' 52 11 = e := by
    apply BitVec.eq_of_toNat_eq
    rw [f64Exponent_toNat, toNat_append_eq, toNat_append_eq]
    omega
  have h := decode_f64 (sg ++ e ++ f) rest
  rwa [hsign, hexp, extract_append_lo] at h

theorem readsBack_of_wellFormed (i : Instr) (h : i.WellFormed) : ReadsBack i := by
  cases i with
  | pecChain bs => exact readsBack_pecChain bs
  | pecCheck bs pec => exact readsBack_pecCheck bs pec
  | signRec w raw => exact readsBack_signRec h
  | f64Mul a b => exact readsBack_f64Mul h
  | pageBuild a c p => exact readsBack_pageBuild a c p
  | seqStart a n => exact readsBack_seqStart a n
  | rd c l d => exact readsBack_rd h
  | wrPage r => exact readsBack_wrPage r
  | seqAbort kind k rw => exact readsBack_seqAbort h
  | fmtLin11 e m => exact readsBack_fmtLin11 e m
  | fmtVmode x e => exact readsBack_fmtVmode x e
  | fmtVout16 w => exact decode_vout16 w
  | fmtPecmsg a k p => exact decode_pecmsg a k p
  | fmtStatus16 w => exact decode_status16 w
  | fmtF64 sg e f => exact readsBack_fmtF64 sg e f
  | _ => exact fun _ => rfl

/-- Settles O26, constructor by constructor. -/
theorem decodeReadsBackEncode : Obligations.DecodeReadsBackEncode :=
  fun i rest h => readsBack_of_wellFormed i h rest

/-- Settles O28: the decoder evaluated on each word. -/
theorem writtenOutWordsDecode : Obligations.WrittenOutWordsDecode :=
  ⟨rfl, rfl, rfl, rfl, rfl, rfl, rfl, rfl, rfl, rfl, rfl⟩

end Sys2Proof
end

section
/-!
The rows of the constant tables: command codes with the steps that emit them, and page bytes (R90, R91).
-/

namespace Sys2Proof.Machine

theorem mem_emittedAt {k : Fin 24} {code : Byte} : k ∈ emittedAt code ↔
    ((microprogram k).uop = .rd ∨ (microprogram k).uop = .wrPage) ∧ (microprogram k).cmd = code := by
  cases hu : (microprogram k).uop <;> simp [emittedAt, hu]

/-- The temperature step emits `BB_TEMP_CMD`, which the microprogram leaves open. -/
theorem two_mem_emittedAt (code : Byte) : (2 : Fin 24) ∈ emittedAt code ↔ Config.bbTempCmd = code :=
  mem_emittedAt.trans (and_iff_right (.inl rfl))

/-- A row of Table 30-3 from its decoder, its meaning, and the microprogram's rows beside the temperature step. -/
theorem commandRow_of_emits {i : Instr} {code : Byte} {bytes : Nat} {form : Option Format}
    {steps : List (Fin 24)} (hd : decode .cmd8 [code] = .ok i [])
    (he : ∀ s, exec i s = .next (s.setResult (.command (commandInfo code bytes form))))
    (hk : ∀ k : Fin 24, k ≠ 2 →
      (((microprogram k).uop = .rd ∨ (microprogram k).uop = .wrPage) ∧ (microprogram k).cmd = code ↔
        k ∈ steps)) :
    CommandRow i code bytes form steps :=
  ⟨hd, fun s => ⟨_, he s, rfl, rfl, rfl, fun k h2 => mem_emittedAt.trans (hk k h2), two_mem_emittedAt code⟩⟩

/-- Settles O22, row by row. -/
theorem commandCodesAreTable303 : Obligations.CommandCodesAreTable303 := by
  refine ⟨?_, ?_, ?_, ?_, ?_, ?_, ?_, ?_, ?_, ?_, ?_, ?_⟩ <;>
    exact commandRow_of_emits rfl (fun _ => rfl) (by decide)

/-- Settles O23, row by row. -/
theorem pageBytesAreTable304 : Obligations.PageBytesAreTable304 :=
  ⟨⟨rfl, fun _ => rfl⟩, ⟨rfl, fun _ => rfl⟩, ⟨rfl, fun _ => rfl⟩, ⟨rfl, fun _ => rfl⟩, rfl, fun _ => rfl⟩

end Sys2Proof.Machine
end

section
/-!
The CRC's table (R111, R112, R115): it is the bit-serial routine, so it inherits the shift's linearity and its
bits; a linear table that is 0 only at 0 is a bijection.
-/

namespace Sys2Proof.Machine

/-! ## One shift, bit by bit -/

/-- The bit shifted out is exclusive-ored in where the polynomial 0x07 has a coefficient. -/
theorem getLsbD_crc8Shift (c : Byte) :
    (crc8Shift c).getLsbD 0 = c.getLsbD 7 ∧ (crc8Shift c).getLsbD 1 = (c.getLsbD 0 ^^ c.getLsbD 7) ∧
    (crc8Shift c).getLsbD 2 = (c.getLsbD 1 ^^ c.getLsbD 7) ∧ (crc8Shift c).getLsbD 3 = c.getLsbD 2 ∧
    (crc8Shift c).getLsbD 4 = c.getLsbD 3 ∧ (crc8Shift c).getLsbD 5 = c.getLsbD 4 ∧
    (crc8Shift c).getLsbD 6 = c.getLsbD 5 ∧ (crc8Shift c).getLsbD 7 = c.getLsbD 6 := by
  unfold crc8Shift
  split <;> simp_all [Config.poly]

/-! ## The table -/

/-- Table 40-1 is generated by the bit-serial routine (R112): its 256 entries, evaluated. -/
theorem crcTable_eq_crc8Byte : ∀ i : Byte, crcTable i = crc8Byte i := by decide

theorem crcTable_xor (a b : Byte) : crcTable (a ^^^ b) = crcTable a ^^^ crcTable b := by
  simp only [crcTable_eq_crc8Byte, crc8Byte, crc8Shift_xor]

@[simp] theorem crcTable_zero : crcTable 0 = 0 := rfl

/-- One shift loses nothing: the bit shifted out stands in bit 0. -/
theorem eq_zero_of_crc8Shift_eq_zero {c : Byte} (h : crc8Shift c = 0) : c = 0 := by
  have hbits := getLsbD_crc8Shift c
  rw [h] at hbits
  apply BitVec.eq_of_getLsbD_eq
  intro i hi
  interval_cases i <;> simp_all

theorem crcTable_eq_zero_iff {x : Byte} : crcTable x = 0 ↔ x = 0 := by
  refine ⟨fun h => ?_, fun h => h ▸ crcTable_zero⟩
  rw [crcTable_eq_crc8Byte] at h
  iterate 8 replace h := eq_zero_of_crc8Shift_eq_zero h
  exact h

theorem crcTable_injective : Function.Injective crcTable := by
  intro a b h
  have hxor : crcTable (a ^^^ b) = 0 := by rw [crcTable_xor, h]; exact BitVec.xor_self
  exact BitVec.xor_eq_zero_iff.mp (crcTable_eq_zero_iff.mp hxor)

theorem crcTable_bijective : Function.Bijective crcTable :=
  Finite.injective_iff_bijective.mp crcTable_injective

/-- Settles O1: the table evaluated, and the worked trace for 0xB0. -/
theorem crcTableIsBitSerial : Obligations.CrcTableIsBitSerial :=
  ⟨crcTable_eq_crc8Byte, by decide, rfl⟩

/-- Settles O5: the network is eight shifts read bit by bit, a bit exclusive-ored in twice dropping out. -/
theorem crcTableIsALinearBijection : Obligations.CrcTableIsALinearBijection := by
  refine ⟨crcTable_xor, by decide, crcTable_bijective, crcTable_zero, ?_⟩
  rintro x i o rfl rfl
  simp only [crcTable_eq_crc8Byte, crc8Byte, getLsbD_crc8Shift]
  simp [Bool.xor_left_comm, Bool.xor_comm]

end Sys2Proof.Machine
end

section
/-!
The PEC's operations (R110, R113, R114): the chain's linearity and its residue 0 follow from the table's laws.
-/

namespace Sys2Proof.Machine

theorem pecStep_comm (p n : Byte) : pecStep p n = pecStep n p := congrArg crcTable (BitVec.xor_comm p n)

theorem pecStep_eq_zero_iff {p n : Byte} : pecStep p n = 0 ↔ p = n :=
  crcTable_eq_zero_iff.trans BitVec.xor_eq_zero_iff

theorem pecStep_xor (p p' n n' : Byte) :
    pecStep (p ^^^ p') (n ^^^ n') = pecStep p n ^^^ pecStep p' n' := by
  rw [pecStep, pecStep, pecStep, ← crcTable_xor]
  congr 1
  ac_rfl

theorem pecChain_concat (bytes : List Byte) (b : Byte) :
    pecChain (bytes ++ [b]) = pecStep (pecChain bytes) b :=
  List.foldl_concat ..

/-- The fold is linear in its starting value and its sequence together; the chain starts both at 0. -/
theorem foldl_pecStep_zipWith_xor (p q : List Byte) (h : p.length = q.length) (c d : Byte) :
    (List.zipWith (· ^^^ ·) p q).foldl pecStep (c ^^^ d) = p.foldl pecStep c ^^^ q.foldl pecStep d := by
  induction p generalizing q c d with
  | nil => rw [List.eq_nil_of_length_eq_zero h.symm]; rfl
  | cons x p ih =>
    cases q with
    | nil => cases h
    | cons y q =>
      simp only [List.zipWith_cons_cons, List.foldl_cons, pecStep_xor]
      exact ih q (Nat.succ.inj h) _ _

theorem pecChain_zipWith_xor {p q : List Byte} (h : p.length = q.length) :
    pecChain (List.zipWith (· ^^^ ·) p q) = pecChain p ^^^ pecChain q :=
  foldl_pecStep_zipWith_xor p q h 0 0

theorem pecChain_concat_eq_zero_iff {bytes : List Byte} {pec : Byte} :
    pecChain (bytes ++ [pec]) = 0 ↔ pecChain bytes = pec := by
  rw [pecChain_concat, pecStep_eq_zero_iff]

theorem pecCheck_eq_true_iff {bytes : List Byte} {pec : Byte} :
    pecCheck bytes pec = true ↔ pecChain bytes = pec := decide_eq_true_iff

/-- Settles O2: a step is 0 exactly on equal operands. -/
theorem pecStepResult : Obligations.PecStepResult :=
  fun p n _ => ⟨rfl, pecStep_comm p n, pecStep_eq_zero_iff.mpr rfl, rfl⟩

/-- Settles O3: the chain is the fold; a leading zero folds in `T[0] = 0`. -/
theorem pecChainResult : Obligations.PecChainResult :=
  fun bytes b _ => ⟨rfl, rfl, congrArg crcTable BitVec.zero_xor, rfl, by decide, rfl, rfl⟩

/-- Settles O4: the answer is the comparison, and a PEC appended folds to 0 exactly when it is equal. -/
theorem pecCheckResult : Obligations.PecCheckResult :=
  fun bytes pec _ => ⟨pecCheck bytes pec, rfl, pecCheck_eq_true_iff,
    pecCheck_eq_true_iff.trans pecChain_concat_eq_zero_iff.symm⟩

/-- Settles O6: its own PEC is the one appended byte that folds to 0. -/
theorem pecChainLinearWithZeroResidue : Obligations.PecChainLinearWithZeroResidue :=
  ⟨fun _ _ h => pecChain_zipWith_xor h, fun _ => pecChain_concat_eq_zero_iff.mpr rfl⟩

end Sys2Proof.Machine
end

section
/-!
The binary64 pattern of R141: its value is the dyadic rational it is made from, and two pairs of one value have one
pattern (R140).
-/

namespace Sys2Proof.Machine

/-! ## Dyadic rationals -/

theorem dyValue_eq_zero_iff {v : Dy} : dyValue v = 0 ↔ v.m = 0 := by
  simp [dyValue, zpow_ne_zero]

theorem dyValue_dyMul (a b : Dy) : dyValue (dyMul a b) = dyValue a * dyValue b := by
  rw [dyValue, dyMul, Int.cast_mul, zpow_add₀ two_ne_zero, dyValue, dyValue]
  ring

/-- Of two pairs of one value, the one with the lower exponent has the other's mantissa shifted left. -/
theorem mantissa_eq_shift_of_dyValue_eq {v w : Dy} (hv : dyValue v = dyValue w) (hle : v.e ≤ w.e) :
    ∃ d : Nat, v.m = w.m * 2 ^ d ∧ w.e = v.e + d := by
  obtain ⟨d, hd⟩ := Int.le.dest hle
  refine ⟨d, ?_, hd.symm⟩
  have hpow : (2 : ℚ) ^ v.e ≠ 0 := zpow_ne_zero _ two_ne_zero
  rw [dyValue, dyValue, ← hd, zpow_add₀ two_ne_zero, zpow_natCast, mul_left_comm, mul_comm] at hv
  exact_mod_cast mul_left_cancel₀ hpow hv

/-! ## The fields of a pattern -/

/-- The sign of `enc64` (R141). -/
def signField (m : Int) : BitVec 1 := if m < 0 then 1 else 0

/-- The biased exponent of `enc64` (R141). -/
def biasedField (v : Dy) : BitVec 11 := BitVec.ofInt 11 (1023 + (v.m.natAbs.log2 : Int) + v.e)

/-- The fraction of `enc64` (R141): the bits of `a` below its highest 1 bit, leftmost. -/
def fracField (a : Nat) : BitVec 52 := BitVec.ofNat 52 ((a - 2 ^ a.log2) * 2 ^ (52 - a.log2))

theorem enc64_of_zero {v : Dy} (h : v.m = 0) : enc64 v = 0 := if_pos h

theorem enc64_of_ne_zero {v : Dy} (h : v.m ≠ 0) :
    enc64 v = signField v.m ++ biasedField v ++ fracField v.m.natAbs := if_neg h

/-- The value of a pattern, by its three fields. -/
theorem f64Value_append (s : BitVec 1) (b : BitVec 11) (f : BitVec 52) (hb : b.toNat ≠ 0) :
    f64Value (s ++ b ++ f) =
      (if s.getLsbD 0 then -1 else 1) * (1 + (f.toNat : ℚ) / 2 ^ 52) * 2 ^ ((b.toNat : Int) - 1023) := by
  have hexp : (s ++ b ++ f).extractLsb' 52 11 = b := by
    apply BitVec.eq_of_toNat_eq
    rw [f64Exponent_toNat, toNat_append_eq, toNat_append_eq]
    have := f.isLt
    have := b.isLt
    omega
  have hsign : (s ++ b ++ f).getLsbD 63 = s.getLsbD 0 := by
    rw [BitVec.getLsbD_append, BitVec.getLsbD_append]
    rfl
  simp only [f64Value, hexp, hsign, extract_append_lo]
  exact if_neg fun h => hb h.1

/-- Both patterns with no exponent and no fraction, whatever their sign, are zero. -/
theorem f64Value_of_fields_zero {v : BitVec 64} (he : v.extractLsb' 52 11 = 0) (hf : v.extractLsb' 0 52 = 0) :
    f64Value v = 0 :=
  if_pos ⟨congrArg BitVec.toNat he, congrArg BitVec.toNat hf⟩

theorem f64Value_zero : f64Value 0 = 0 := f64Value_of_fields_zero (by decide) (by decide)

theorem f64Value_negZero : f64Value 0x8000000000000000 = 0 := f64Value_of_fields_zero (by decide) (by decide)

theorem signField_getLsbD (m : Int) : (signField m).getLsbD 0 = decide (m < 0) := by
  unfold signField
  split <;> simp_all

/-- The sign and the magnitude are the number. -/
theorem sign_mul_natAbs (m : Int) : (if decide (m < 0) then (-1 : ℚ) else 1) * m.natAbs = m := by
  rw [Nat.cast_natAbs]
  by_cases h : m < 0
  · simp [h, abs_of_neg h]
  · simp [h, abs_of_nonneg (not_lt.mp h)]

/-- No exponent of R140 leaves the eleven bits (R141: 991 to 1078). -/
theorem biasedField_toNat {v : Dy} (h0 : v.m ≠ 0) (hm : v.m.natAbs < 2 ^ 26) (hlo : -32 ≤ v.e) (hhi : v.e ≤ 30) :
    ((biasedField v).toNat : Int) = 1023 + v.m.natAbs.log2 + v.e := by
  have hk : v.m.natAbs.log2 < 26 := (Nat.log2_lt (Int.natAbs_ne_zero.2 h0)).2 hm
  rw [biasedField, BitVec.toNat_ofInt]
  omega

/-- The fraction is the mantissa over its highest 1 bit, less 1. -/
theorem one_add_fracField {a : Nat} (ha : a ≠ 0) (hk : a.log2 ≤ 52) :
    1 + ((fracField a).toNat : ℚ) / 2 ^ 52 = a / 2 ^ a.log2 := by
  obtain ⟨j, hj⟩ := Nat.exists_eq_add_of_le hk
  have hle : 2 ^ a.log2 ≤ a := Nat.log2_self_le ha
  have hlt : a - 2 ^ a.log2 < 2 ^ a.log2 := by
    have := Nat.lt_log2_self (n := a)
    omega
  have hfits : (a - 2 ^ a.log2) * 2 ^ j < 2 ^ 52 := by
    rw [hj, pow_add]
    exact Nat.mul_lt_mul_of_pos_right hlt (Nat.two_pow_pos j)
  rw [fracField, show 52 - a.log2 = j by omega, BitVec.toNat_ofNat, Nat.mod_eq_of_lt hfits, hj, pow_add,
    Nat.cast_mul, Nat.cast_sub hle]
  push_cast
  field_simp
  ring

/-- R140: the pattern of every value the block can produce has exactly that value. -/
theorem f64Value_enc64 {v : Dy} (hm : v.m.natAbs < 2 ^ 26) (hlo : -32 ≤ v.e) (hhi : v.e ≤ 30) :
    f64Value (enc64 v) = dyValue v := by
  by_cases h0 : v.m = 0
  · rw [enc64_of_zero h0, dyValue_eq_zero_iff.2 h0, f64Value_zero]
  · have ha : v.m.natAbs ≠ 0 := Int.natAbs_ne_zero.2 h0
    have hk : v.m.natAbs.log2 < 26 := (Nat.log2_lt ha).2 hm
    have hb := biasedField_toNat h0 hm hlo hhi
    calc f64Value (enc64 v)
      _ = (if decide (v.m < 0) then -1 else 1) * (v.m.natAbs / 2 ^ v.m.natAbs.log2) *
          (2 : ℚ) ^ ((v.m.natAbs.log2 : Int) + v.e) := by
        rw [enc64_of_ne_zero h0, f64Value_append _ _ _ (by omega), signField_getLsbD,
          one_add_fracField ha (by omega), hb, show ∀ k e : Int, 1023 + k + e - 1023 = k + e by omega]
      _ = ((if decide (v.m < 0) then -1 else 1) * v.m.natAbs) * (2 : ℚ) ^ v.e := by
        rw [zpow_add₀ two_ne_zero, zpow_natCast]
        field_simp
      _ = dyValue v := by rw [sign_mul_natAbs, dyValue]

/-! ## One pattern for one value -/

theorem log2_mul_two_pow {a : Nat} (ha : a ≠ 0) (d : Nat) : (a * 2 ^ d).log2 = a.log2 + d := by
  rw [Nat.log2_eq_iff (by positivity), pow_add, show a.log2 + d + 1 = (a.log2 + 1) + d by omega, pow_add _ (_ + 1)]
  exact ⟨Nat.mul_le_mul_right _ (Nat.log2_self_le ha),
    Nat.mul_lt_mul_of_pos_right Nat.lt_log2_self (Nat.two_pow_pos d)⟩

theorem signField_mul_two_pow (m : Int) (d : Nat) : signField (m * 2 ^ d) = signField m := by
  have hneg : m * 2 ^ d < 0 ↔ m < 0 :=
    lt_iff_lt_of_le_iff_le (mul_nonneg_iff_of_pos_right (pow_pos two_pos d))
  simp only [signField, hneg]

theorem fracField_mul_two_pow {a d : Nat} (ha : a ≠ 0) (hk : a.log2 + d ≤ 52) :
    fracField (a * 2 ^ d) = fracField a := by
  rw [fracField, fracField, log2_mul_two_pow ha, pow_add, ← Nat.sub_mul, mul_assoc, ← pow_add,
    show d + (52 - (a.log2 + d)) = 52 - a.log2 by omega]

/-- A shifted mantissa has the pattern of the unshifted one with the higher exponent. -/
theorem enc64_mul_two_pow {m e : Int} {d : Nat} (h : (m * 2 ^ d).natAbs < 2 ^ 53) :
    enc64 ⟨m * 2 ^ d, e⟩ = enc64 ⟨m, e + d⟩ := by
  by_cases h0 : m = 0
  · rw [h0, Int.zero_mul, enc64_of_zero rfl, enc64_of_zero rfl]
  · have ha : m.natAbs ≠ 0 := Int.natAbs_ne_zero.2 h0
    have habs : (m * 2 ^ d).natAbs = m.natAbs * 2 ^ d := by simp [Int.natAbs_mul, Int.natAbs_pow]
    rw [habs, ← Nat.log2_lt (by positivity), log2_mul_two_pow ha] at h
    have hexp : biasedField ⟨m * 2 ^ d, e⟩ = biasedField ⟨m, e + d⟩ := by
      simp only [biasedField, habs, log2_mul_two_pow ha]
      congr 1
      omega
    rw [enc64_of_ne_zero (by simp [h0]), enc64_of_ne_zero h0, signField_mul_two_pow, hexp, habs,
      fracField_mul_two_pow ha (by omega)]

/-- The pair with the lower exponent is the other one shifted. -/
theorem enc64_eq_of_le {v w : Dy} (hm : v.m.natAbs < 2 ^ 26) (hv : dyValue v = dyValue w) (hle : v.e ≤ w.e) :
    enc64 v = enc64 w := by
  obtain ⟨d, hd, he⟩ := mantissa_eq_shift_of_dyValue_eq hv hle
  obtain ⟨m, e⟩ := v
  obtain ⟨n, f⟩ := w
  obtain rfl : m = n * 2 ^ d := hd
  obtain rfl : f = e + d := he
  exact enc64_mul_two_pow (hm.trans (by decide))

/-- Settles O14: the pattern's value by its fields, and a shifted mantissa under a higher exponent. -/
theorem binaryPatternsAreExact : Obligations.BinaryPatternsAreExact := by
  refine ⟨fun v hm hlo hhi => f64Value_enc64 hm hlo hhi, fun v w hv _ _ hw _ _ h => ?_⟩
  rcases le_total v.e w.e with hle | hle
  · exact enc64_eq_of_le hv h hle
  · exact (enc64_eq_of_le hw h.symm hle).symm

end Sys2Proof.Machine
end

section
/-!
The numeric decoders (R130 to R143): what each unit drives onto its result wires, the fields in whole numbers, the
round trips, and the ranges of the values.
-/

namespace Sys2Proof.Machine

/-! ## SIGN.REC -/

/-- SIGN.REC in whole numbers (R130). -/
theorem signRec_eq_ite {w n : Nat} (h : n < 2 ^ (w + 1)) :
    signRec (w + 1) n = if n < 2 ^ w then (n : Int) else n - 2 ^ (w + 1) := by
  have hn : (BitVec.ofNat (w + 1) n).toNat = n := by rw [BitVec.toNat_ofNat, Nat.mod_eq_of_lt h]
  have hlow : 2 * n < 2 ^ (w + 1) ↔ n < 2 ^ w := by omega
  have hint := signRec_toNat (BitVec.ofNat (w + 1) n)
  simpa only [BitVec.toInt_eq_toNat_cond, hn, hlow, Nat.cast_pow, Nat.cast_ofNat] using hint

theorem expOf_eq_ite (raw : BitVec 5) :
    expOf raw = if raw.toNat < 16 then (raw.toNat : Int) else raw.toNat - 32 := signRec_eq_ite (w := 4) raw.isLt

theorem mantOf_eq_ite (raw : BitVec 11) :
    mantOf raw = if raw.toNat < 1024 then (raw.toNat : Int) else raw.toNat - 2048 :=
  signRec_eq_ite (w := 10) raw.isLt

/-- The result fits the width of the field (R130). -/
theorem signRec_bounds {w n : Nat} (h : n < 2 ^ (w + 1)) :
    -2 ^ w ≤ signRec (w + 1) n ∧ signRec (w + 1) n ≤ 2 ^ w - 1 := by
  have hn : (n : Int) < 2 ^ (w + 1) := mod_cast h
  rw [signRec_eq_ite h]
  split
  case isTrue hlow =>
    have : (n : Int) < 2 ^ w := mod_cast hlow
    omega
  case isFalse hhigh =>
    have : (2 : Int) ^ w ≤ n := mod_cast not_lt.mp hhigh
    omega

theorem exec_signRec {w : SignWidth} {raw : BitVec 11} (h : raw.toNat < 2 ^ w.bits) (s : State) :
    exec (.signRec w raw) s = .next (s.setResult (.int (signRec w.bits raw.toNat))) := if_pos h

/-- Settles O7: the sign bit is the test the result branches on. -/
theorem signRecResult : Obligations.SignRecResult := by
  intro w raw s h
  refine ⟨signRec w.bits raw.toNat, exec_signRec h s, fun hsign => if_pos hsign, fun hsign => if_neg ?_, ?_⟩
  · exact ne_true_of_eq_false hsign
  · cases w with
    | five => exact signRec_bounds (w := 4) h
    | eleven => exact signRec_bounds (w := 10) h

/-! ## The decoders -/

/-- Settles O8: the fields of `hi * 256 + lo` as numbers, each read by SIGN.REC. -/
theorem lin11DecResult : Obligations.Lin11DecResult := by
  intro hi lo s
  refine ⟨expOf (lin11ExpRaw (catBytes hi lo)), mantOf (lin11MantRaw (catBytes hi lo)), rfl,
    hi.toNat * 256 + lo.toNat, rfl, ?_, ?_⟩
  · rw [expOf_eq_ite, lin11ExpRaw_toNat, catBytes_toNat]
    rfl
  · rw [mantOf_eq_ite, lin11MantRaw_toNat, catBytes_toNat]
    rfl

/-- Settles O9: the word as a number, and the mode byte's low five bits read by SIGN.REC. -/
theorem voutDecResult : Obligations.VoutDecResult := by
  intro mode hi lo s
  refine ⟨expOf (vmodeExpRaw mode), (catBytes hi lo).toNat, rfl, catBytes_toNat hi lo, ?_⟩
  rw [expOf_eq_ite, vmodeExpRaw_toNat]
  rfl

/-! ## Round trips -/

/-- `encode11` in the arithmetic of R139. -/
theorem encode11_eq_ofNat (m e : Int) :
    encode11 m e = BitVec.ofNat 16 (((e % 32).toNat <<< 11) ||| (m % 2048).toNat) := by
  have hm : (m % 2048).toNat < 2 ^ 11 := by omega
  apply BitVec.eq_of_toNat_eq
  rw [encode11, toNat_append_eq, BitVec.toNat_ofInt, BitVec.toNat_ofInt, BitVec.toNat_ofNat,
    ← Nat.shiftLeft_add_eq_or_of_lt hm, Nat.shiftLeft_eq]
  omega

/-- The mode byte of an exponent (R139). -/
theorem setWidth_ofInt_five (e : Int) : (BitVec.ofInt 5 e).setWidth 8 = BitVec.ofNat 8 (e % 32).toNat := by
  apply BitVec.eq_of_toNat_eq
  rw [BitVec.toNat_setWidth, BitVec.toNat_ofInt, BitVec.toNat_ofNat]
  rfl

/-- Settles O12: the words of R139 are the operand bytes of the decoders' results. -/
theorem decodersRoundTrip : Obligations.DecodersRoundTrip := by
  constructor
  case left =>
    rintro m e hm0 hm he0 he w rfl
    rw [← encode11_eq_ofNat]
    exact lin11Decode_encode11 (v := ⟨m, e⟩) (decide_eq_true ⟨hm0, hm, he0, he⟩)
  case right =>
    intro u e hu he0 he
    rw [← setWidth_ofInt_five, ← BitVec.ofInt_natCast]
    exact voutDecode_voutOperand (v := ⟨u, e⟩) (decide_eq_true ⟨Int.natCast_nonneg u, Int.ofNat_le.mpr hu, he0, he⟩)

/-! ## Ranges -/

/-- Every value with an exponent of five bits is a multiple of the smallest power (R138). -/
theorem dyValue_multiple {v : Dy} (h : -16 ≤ v.e) : ∃ n : Int, dyValue v = n * (2 : ℚ) ^ (-16 : Int) := by
  obtain ⟨d, hd⟩ := Int.le.dest h
  refine ⟨v.m * 2 ^ d, ?_⟩
  rw [dyValue, ← hd, zpow_add₀ two_ne_zero, zpow_natCast]
  push_cast
  ring

/-- The largest power stretches a range of mantissas that holds 0 the most (R138). -/
theorem dyValue_bounds {v : Dy} {lo hi : Int} (hlo : lo ≤ v.m) (hhi : v.m ≤ hi) (hlo0 : lo ≤ 0) (hhi0 : 0 ≤ hi)
    (he : v.e ≤ 15) : (lo : ℚ) * 2 ^ 15 ≤ dyValue v ∧ dyValue v ≤ hi * 2 ^ 15 := by
  have hpos : (0 : ℚ) < 2 ^ v.e := zpow_pos two_pos _
  have hpow : (2 : ℚ) ^ v.e ≤ 2 ^ 15 := zpow_le_zpow_right₀ one_le_two he
  have hlo' : (lo : ℚ) ≤ v.m := mod_cast hlo
  have hhi' : (v.m : ℚ) ≤ hi := mod_cast hhi
  have hlo0' : (lo : ℚ) ≤ 0 := mod_cast hlo0
  have hhi0' : (0 : ℚ) ≤ hi := mod_cast hhi0
  constructor
  · calc (lo : ℚ) * 2 ^ 15 ≤ lo * 2 ^ v.e := mul_le_mul_of_nonpos_left hpow hlo0'
      _ ≤ dyValue v := mul_le_mul_of_nonneg_right hlo' hpos.le
  · calc dyValue v ≤ hi * 2 ^ v.e := mul_le_mul_of_nonneg_right hhi' hpos.le
      _ ≤ hi * 2 ^ 15 := mul_le_mul_of_nonneg_left hpow hhi0'

theorem lin11Decode_bounds (hi lo : Byte) : -1024 ≤ (lin11Decode hi lo).m ∧ (lin11Decode hi lo).m ≤ 1023 ∧
    -16 ≤ (lin11Decode hi lo).e ∧ (lin11Decode hi lo).e ≤ 15 :=
  of_decide_eq_true (isLin11Result_lin11Decode hi lo)

theorem voutDecode_bounds (mode hi lo : Byte) : 0 ≤ (voutDecode mode hi lo).m ∧
    (voutDecode mode hi lo).m ≤ 65535 ∧ -16 ≤ (voutDecode mode hi lo).e ∧ (voutDecode mode hi lo).e ≤ 15 :=
  of_decide_eq_true (isVoutResult_voutDecode mode hi lo)

/-- Settles O13: the decoders' results have the ranges of F64.MUL's operands, and the values follow from them. -/
theorem decoderRanges : Obligations.DecoderRanges := by
  constructor
  case left =>
    intro hi lo
    obtain ⟨hm0, hm, he0, he⟩ := lin11Decode_bounds hi lo
    obtain ⟨hv0, hv⟩ := dyValue_bounds hm0 hm (by decide) (by decide) he
    exact ⟨_, rfl, hm0, hm, he0, he, le_trans (by norm_num) hv0, hv.trans (by norm_num), dyValue_multiple he0⟩
  case right =>
    intro mode hi lo
    obtain ⟨hm0, hm, he0, he⟩ := voutDecode_bounds mode hi lo
    obtain ⟨hv0, hv⟩ := dyValue_bounds hm0 hm le_rfl (by decide) he
    exact ⟨_, rfl, hm0, hm, he0, he, le_trans (by norm_num) hv0, hv.trans (by norm_num), dyValue_multiple he0⟩

/-! ## The product -/

theorem exec_f64Mul {a b : Dy} (h : (isVoutResult a && isLin11Result b) = true) (s : State) :
    exec (.f64Mul a b) s = .next (s.setResult (.f64 (dyMul a b) (enc64mul a b))) := if_pos h

/-- Settles O10: decoder results are what the unit accepts, and `enc64mul` is the pattern of R143. -/
theorem f64MulResult : Obligations.F64MulResult := by
  intro a b s ha0 ha hae0 hae hb0 hb hbe0 hbe
  exact exec_f64Mul ((Bool.and_eq_true _ _).mpr
    ⟨decide_eq_true ⟨ha0, ha, hae0, hae⟩, decide_eq_true ⟨hb0, hb, hbe0, hbe⟩⟩) s

/-- Settles O11: both units test their operands first. -/
theorem operandsOutsideTheRulesAreRefused : Obligations.OperandsOutsideTheRulesAreRefused :=
  ⟨fun _ _ _ h => if_neg (ne_true_of_eq_false h), fun _ _ _ h => if_neg (not_lt.mpr h)⟩

/-- Either zero a product can have is 0 as a value (R143). -/
theorem f64Value_enc64mul_of_zero {a b : Dy} (h : a.m * b.m = 0) : f64Value (enc64mul a b) = 0 := by
  rw [enc64mul, if_neg (not_not.mpr h)]
  split
  · exact f64Value_negZero
  · exact f64Value_zero

/-- R140: the pattern of a product in the range has exactly its value. -/
theorem f64Value_enc64mul {a b : Dy} (hm : (dyMul a b).m.natAbs < 2 ^ 26) (hlo : -32 ≤ (dyMul a b).e)
    (hhi : (dyMul a b).e ≤ 30) : f64Value (enc64mul a b) = dyValue (dyMul a b) := by
  by_cases h0 : a.m * b.m = 0
  · rw [f64Value_enc64mul_of_zero h0, dyValue_eq_zero_iff.mpr h0]
  · rw [enc64mul, if_pos h0, f64Value_enc64 hm hlo hhi]

/-- The mantissa of a power is at most 65535 * 1024 (R140). -/
theorem natAbs_mul_le {a b : Int} (ha0 : 0 ≤ a) (ha : a ≤ 65535) (hb0 : -1024 ≤ b) (hb : b ≤ 1023) :
    (a * b).natAbs ≤ 67107840 := by
  rw [Int.natAbs_mul]
  exact Nat.mul_le_mul (show a.natAbs ≤ 65535 by omega) (show b.natAbs ≤ 1024 by omega)

/-- Settles O15: the operands' ranges bound the product, and in that range a pattern is exact. -/
theorem productsStayExact : Obligations.ProductsStayExact := by
  intro mode uh ul ih il
  obtain ⟨ha0, ha, hae0, hae⟩ := voutDecode_bounds mode uh ul
  obtain ⟨hb0, hb, hbe0, hbe⟩ := lin11Decode_bounds ih il
  have hm := natAbs_mul_le ha0 ha hb0 hb
  have hlo : -32 ≤ (voutDecode mode uh ul).e + (lin11Decode ih il).e := by omega
  have hhi : (voutDecode mode uh ul).e + (lin11Decode ih il).e ≤ 30 := by omega
  exact ⟨_, rfl, hm, hlo, hhi, dyValue_dyMul _ _, f64Value_enc64mul (hm.trans_lt (by decide)) hlo hhi⟩

/-! ## Zero -/

/-- The pattern of a value is minus zero for no value: one that is not 0 is not the value of minus zero. -/
theorem enc64_ne_negZero {v : Dy} (hm : v.m.natAbs < 2 ^ 26) (hlo : -32 ≤ v.e) (hhi : v.e ≤ 30) :
    enc64 v ≠ 0x8000000000000000 := by
  intro h
  have hval := f64Value_enc64 hm hlo hhi
  rw [h, f64Value_negZero, eq_comm, dyValue_eq_zero_iff] at hval
  rw [enc64_of_zero hval] at h
  exact absurd h (by decide)

/-- Settles O16: a zero mantissa has the pattern 0, and a pattern with another mantissa has a value that is not 0. -/
theorem decoderZeroIsPositive : Obligations.DecoderZeroIsPositive := by
  refine ⟨fun hi lo h => enc64_of_zero ?_, fun mode => enc64_of_zero rfl, fun hi lo => ?_, fun mode hi lo => ?_⟩
  · change mantOf (lin11MantRaw (catBytes hi lo)) = 0
    rw [mantOf_eq_ite, lin11MantRaw_toNat, catBytes_toNat, h]
    rfl
  · have := lin11Decode_bounds hi lo
    exact enc64_ne_negZero (by omega) (by omega) (by omega)
  · have := voutDecode_bounds mode hi lo
    exact enc64_ne_negZero (by omega) (by omega) (by omega)

end Sys2Proof.Machine
end

section
/-!
The decoder answers instructions of the table it was asked to read (R98), and with the operands the spec allows.
-/

namespace Sys2Proof

open Machine

/-- An answer of the decoder is a refusal or an instruction of the table `f`. -/
def Decoded.OfTable (f : Format) : Decoded → Prop
  | .ok i _ => formatOf i = f
  | .bad _ => True

theorem decodeOp_ofTable (bs : List Byte) : (decodeOp bs).OfTable .op := by
  unfold decodeOp
  split
  case h_1 => trivial
  case h_2 b bs =>
    split
    case h_1 => unfold decodePecStep; split <;> trivial
    case h_2 => unfold decodePecChain; split <;> trivial
    case h_3 => unfold decodePecCheck; (repeat' split) <;> trivial
    case h_4 => unfold decodeSignRec; dsimp only; (repeat' split) <;> trivial
    case h_5 => unfold decodeLin11Dec; split <;> trivial
    case h_6 => unfold decodeVoutDec; split <;> trivial
    case h_7 => unfold decodeF64Mul; split <;> trivial
    case h_8 => unfold decodePageBuild; (repeat' split) <;> trivial
    case h_9 => unfold decodeSeqStart; (repeat' split) <;> trivial
    case h_11 => unfold decodeRd; (repeat' split) <;> trivial
    case h_12 => unfold decodeWrPage; (repeat' split) <;> trivial
    case h_15 => unfold decodeSeqAbort; (repeat' split) <;> trivial
    all_goals trivial

theorem formatOf_of_commandInstr {n : Nat} {i : Instr} (h : commandInstr n = some i) : formatOf i = .cmd8 := by
  unfold commandInstr at h
  split at h <;> cases h <;> rfl

theorem formatOf_of_pageInstr {n : Nat} {i : Instr} (h : pageInstr n = some i) : formatOf i = .page8 := by
  unfold pageInstr at h
  split at h <;> cases h <;> rfl

theorem formatOf_uromInstr : ∀ k : Fin 24, formatOf (uromInstr k) = .urom := by decide

theorem decodeCmd8_ofTable (bs : List Byte) : (decodeCmd8 bs).OfTable .cmd8 := by
  unfold decodeCmd8
  split
  · split
    · exact formatOf_of_commandInstr ‹_›
    · trivial
  · trivial

theorem decodePage8_ofTable (bs : List Byte) : (decodePage8 bs).OfTable .page8 := by
  unfold decodePage8
  split
  · split
    · exact formatOf_of_pageInstr ‹_›
    · trivial
  · trivial

theorem decodeUrom_ofTable (bs : List Byte) : (decodeUrom bs).OfTable .urom := by
  unfold decodeUrom
  split
  · split
    · exact formatOf_uromInstr _
    · trivial
  · trivial

theorem decode_ofTable (f : Format) (bs : List Byte) : (decode f bs).OfTable f := by
  unfold decode
  split
  case h_1 => exact decodeOp_ofTable bs
  case h_9 => exact decodeCmd8_ofTable bs
  case h_10 => exact decodePage8_ofTable bs
  case h_11 => exact decodeUrom_ofTable bs
  case h_2 => unfold decodeFmtLin11; split <;> trivial
  case h_3 => unfold decodeFmtVmode; split <;> trivial
  case h_4 => unfold decodeFmtVout16; split <;> trivial
  case h_5 => unfold decodeFmtPagebuf; split <;> trivial
  case h_6 => unfold decodeFmtPecmsg; (repeat' split) <;> trivial
  case h_7 => unfold decodeFmtStatus16; split <;> trivial
  case h_8 => unfold decodeFmtF64; split <;> trivial

theorem formatOf_of_decode {f : Format} {bs rest : List Byte} {i : Instr} (hd : decode f bs = .ok i rest) :
    formatOf i = f := by
  have h := decode_ofTable f bs
  rwa [hd] at h

/-- Settles O27: each table's decoder answers its own instructions, with operands that are checked or cannot fail. -/
theorem decodedInstructionsAreWellFormed : Obligations.DecodedInstructionsAreWellFormed :=
  fun _ _ _ _ hd => ⟨wellFormed_of_decode hd, formatOf_of_decode hd⟩

end Sys2Proof
end

section
/-!
The transaction builder (R160, R162): the PEC of a page-select payload is three lookups in the table, the last of
which takes the page in linearly.
-/

namespace Sys2Proof.Machine

/-- The chain of R160; its first lookup is of the address byte alone, as the initial value is 0. -/
theorem pagePec_eq_crcTable (addr : BitVec 7) (cmd page : Byte) :
    pagePec addr cmd page = crcTable (crcTable (crcTable (addrByte addr) ^^^ cmd) ^^^ page) := by
  have hfirst : pecStep Config.pecInit (addrByte addr) = crcTable (addrByte addr) :=
    congrArg crcTable BitVec.zero_xor
  rw [← hfirst]
  rfl

/-- The address and the command are the payload's part of page 0x00; another page adds its own `T[page]` (R162). -/
theorem pagePec_eq_xor_crcTable (addr : BitVec 7) (cmd page : Byte) :
    pagePec addr cmd page = pagePec addr cmd 0x00 ^^^ crcTable page := by
  rw [pagePec_eq_crcTable, pagePec_eq_crcTable, crcTable_xor _ page]
  exact congrArg (crcTable · ^^^ _) BitVec.xor_zero.symm

/-- `PAGE_IDX` as R162 lists it. -/
theorem pageIdx_eq_getD : ∀ r : Fin 5, pageIdx r = [0x00, 0x01, 0x02, 0x10, 0x11].getD r.val 0 := by decide

theorem exec_pageBuild (addr : BitVec 7) (cmd page : Byte) (s : State) :
    exec (.pageBuild addr cmd page) s =
      .next (s.setResult (.payload page (pagePec addr cmd page) (pagebufWord page (pagePec addr cmd page)))) := rfl

/-- Settles O18: the row carries the builder's payload, and its PEC is linear in the page. -/
theorem pagePayloadsOfOnePoll : Obligations.PagePayloadsOfOnePoll := by
  refine ⟨fun s r => ⟨pageIdx r, pageIdx_eq_getD r, ?_⟩, fun a p => pagePec_eq_xor_crcTable a 0x00 p, by decide⟩
  rw [s.rowRequest_wrPage r]

/-- Settles O17: the PEC is the chain of three lookups, and the word has it above the page byte. -/
theorem pageBuildResult : Obligations.PageBuildResult := by
  intro addr cmd page s
  refine ⟨pagePec addr cmd page, ?_, ?_⟩
  · rw [pagePec_eq_crcTable, addrByte_eq_ofNat]
  · rw [exec_pageBuild, pagebufWord_eq_ofNat]
    rfl

end Sys2Proof.Machine
end

section
/-!
What the sequencer's micro-operations do at their row: SEQ.START, SEQ.DONE and SEQ.ABORT as they stand, the others
as the two halves of their row (R173 to R181).
-/

namespace Sys2Proof.Machine

/-! ## The rows of a rail (R171) -/

theorem captureStep_vmodeReg : ∀ r : Fin 5, (captureStep (vmodeReg r)).val = 4 + 4 * r.val := by decide

theorem captureStep_voutReg : ∀ r : Fin 5, (captureStep (voutReg r)).val = 5 + 4 * r.val := by decide

theorem captureStep_ioutReg : ∀ r : Fin 5, (captureStep (ioutReg r)).val = 6 + 4 * r.val := by decide

theorem microprogram_vmodeReg (r : Fin 5) :
    microprogram (captureStep (vmodeReg r)) = ⟨.rd, 0x20, 1, vmodeReg r, 0⟩ := by
  fin_cases r <;> rfl

theorem microprogram_voutReg (r : Fin 5) :
    microprogram (captureStep (voutReg r)) = ⟨.rd, 0x8B, 2, voutReg r, 0⟩ := by
  fin_cases r <;> rfl

theorem microprogram_ioutReg (r : Fin 5) :
    microprogram (captureStep (ioutReg r)) = ⟨.rd, 0x8C, 2, ioutReg r, 0⟩ := by
  fin_cases r <;> rfl

/-- Settles O24: the four rows outside the rails evaluated, a rail's rows by the steps of its page and registers. -/
theorem microprogramIsTable431 : Obligations.MicroprogramIsTable431 := by
  refine ⟨rfl, rfl, rfl, rfl, fun r k d => ⟨fun hk => ?page, fun hk hd => ?vmode, fun hk hd => ?vout,
    fun hk hd => ?iout⟩⟩
  case page =>
    obtain rfl : k = wrPageStep r := Fin.ext hk
    exact microprogram_wrPageStep r
  case vmode =>
    obtain rfl : d = vmodeReg r := Fin.ext hd
    obtain rfl : k = captureStep (vmodeReg r) := Fin.ext (hk.trans (captureStep_vmodeReg r).symm)
    exact microprogram_vmodeReg r
  case vout =>
    obtain rfl : d = voutReg r := Fin.ext hd
    obtain rfl : k = captureStep (voutReg r) := Fin.ext (hk.trans (captureStep_voutReg r).symm)
    exact microprogram_voutReg r
  case iout =>
    obtain rfl : d = ioutReg r := Fin.ext hd
    obtain rfl : k = captureStep (ioutReg r) := Fin.ext (hk.trans (captureStep_ioutReg r).symm)
    exact microprogram_ioutReg r

/-! ## SEQ.START, SEQ.DONE and SEQ.ABORT -/

theorem exec_seqStart_of_idle {s : State} (hpc : s.seqPc = .idle) (a : BitVec 7) (b : Nat) :
    exec (.seqStart a b) s = .next (s.seqStart a b) := if_pos hpc

/-- Settles O29: the start's own fields, and the registers' valid bits cleared with their bits kept. -/
theorem seqStartBeginsAPoll : Obligations.SeqStartBeginsAPoll := fun a b s hpc =>
  ⟨s.seqStart a b, exec_seqStart_of_idle hpc a b,
    fun i => ⟨s.captureValid_seqStart a b i, clearValid_bits s.captures i⟩, rfl⟩

/-- Settles O30: in a running poll SEQ.START takes its other branch. -/
theorem startWhileBusyIsIgnored : Obligations.StartWhileBusyIsIgnored := fun _ _ _ hpc => if_neg hpc

/-- Settles O37: at the CLOSE of a poll that ran well SEQ.DONE is enabled. -/
theorem seqDoneMakesTheSnapshotReadable : Obligations.SeqDoneMakesTheSnapshotReadable :=
  fun _ hpc hf => if_pos ⟨hpc, hf⟩

/-- Settles O38: at its step SEQ.ABORT is enabled, and its code is that of the kind. -/
theorem seqAbortRecordsAndLeaves : Obligations.SeqAbortRecordsAndLeaves := by
  intro kind k rw s hpc
  refine (if_pos hpc : exec (.seqAbort kind k rw) s = .next (s.seqAbort kind k rw)).trans ?_
  cases kind <;> rfl

/-! ## The two halves of a row (R175) -/

/-- The instruction `i` is row `k`: at step `k` it makes the row's transition. -/
def RunsRow (i : Instr) (k : Fin 24) : Prop :=
  ∀ s : State, s.seqPc = .step k → exec i s = .next (s.transition k (microprogram k))

theorem runsRow_uromInstr (k : Fin 24) : RunsRow (uromInstr k) k := fun s hpc =>
  (exec_uromInstr k s).trans (State.runRow_of_pc hpc)

theorem runsRow_openBus : RunsRow .openBus 0 := fun s hpc => s.runRowIf_eq 0 hpc

theorem runsRow_rd (d : Fin 17) : RunsRow (.rd (captureCmd d) (captureLen d) d) (captureStep d) := fun s hpc =>
  (congrArg s.runRowIf (microprogram_captureStep d)).symm.trans (s.runRowIf_eq _ hpc)

theorem runsRow_wrPage (r : Fin 5) : RunsRow (.wrPage r) (wrPageStep r) := fun s hpc =>
  (congrArg s.runRowIf (microprogram_wrPageStep r)).symm.trans (s.runRowIf_eq _ hpc)

theorem runsRow_closeBus : RunsRow .closeBus 23 := fun s hpc => s.runRowIf_eq 23 hpc

theorem RunsRow.exec_issue {i : Instr} {k : Fin 24} (hi : RunsRow i k) {s : State} (hpc : s.seqPc = .step k)
    (hw : s.waiting = false) : exec i s = .next (s.issue (microprogram k)) := by
  rw [hi s hpc, s.transition_issue k _ hw]

theorem RunsRow.exec_respond {i : Instr} {k : Fin 24} (hi : RunsRow i k) {s : State} {rsp : Response}
    (hpc : s.seqPc = .step k) (hw : s.waiting = true) (hin : s.input = some (.response rsp)) :
    exec i s = .next (s.respond k (microprogram k) rsp) := by
  rw [hi s hpc, s.transition_respond k _ rsp hw hin]

/-- What the issue half of a row leaves, the row's request written out. -/
theorem State.issue_eq (s : State) {r : Row} {q : Request} (hq : s.rowRequest r = q) :
    s.issue r = { s with waiting := true, reqPort := some q } := by
  rw [← hq]; rfl

theorem RunsRow.exec_request {i : Instr} {k : Fin 24} (hi : RunsRow i k) {s : State} {q : Request}
    (hq : s.rowRequest (microprogram k) = q) (hpc : s.seqPc = .step k) (hw : s.waiting = false) :
    exec i s = .next { s with waiting := true, reqPort := some q } := by
  rw [hi.exec_issue hpc hw, s.issue_eq hq]

/-- Settles O31: every row and micro-operation makes its issue half, with the request of R52 to R55. -/
theorem issueHalfPresentsTheRowsRequest : Obligations.IssueHalfPresentsTheRowsRequest :=
  ⟨fun k _ => (runsRow_uromInstr k).exec_request rfl,
    fun s => runsRow_openBus.exec_request s.rowRequest_openBus,
    fun d s => (runsRow_rd d).exec_request (s.rowRequest_rd d),
    fun r s => (runsRow_wrPage r).exec_request (s.rowRequest_wrPage r),
    fun s => runsRow_closeBus.exec_request s.rowRequest_closeBus⟩

/-! ## The response halves -/

/-- Away from step 0 an abort goes to the CLOSE (R181). -/
theorem abortPc_of_ne {k : Fin 24} (hk : k ≠ 0) : abortPc k = .step 23 := if_neg hk

theorem State.seqAbort_of_ne (s : State) {k : Fin 24} (hk : k ≠ 0) (kind : FailKind) (rw : Bool) :
    s.seqAbort kind k rw = { s with
      fail := true, errCode := failCode kind, errStep := BitVec.ofNat 5 k.val, errRw := rw
      waiting := false, reqPort := none, seqPc := .step 23 } := by
  rw [State.seqAbort, abortPc_of_ne hk]

/-- A read that succeeds, as the register and the step it leaves (R176). -/
theorem State.goto_writeCapture_eq (s : State) (d : Fin 17) (v : Word) :
    (s.taken.writeCapture d (readValue (captureLen d) v)).goto (nextPc (captureStep d)) = { s with
      waiting := false, reqPort := none
      captures := s.captures.set d.val
        ⟨if captureLen d = 2 then v else BitVec.ofNat 16 (v.toNat % 256), true⟩ d.isLt
      seqPc := .step (Fin.ofNat 24 ((captureStep d).val + 1)) } := by
  rw [State.goto, nextPc_captureStep, State.writeCapture, captureCut_readValue]; rfl

/-- The CLOSE's answer (R179), the failure asked for in one place. -/
theorem State.respondClose_eq (s : State) : s.respondClose = { s with
    waiting := false, reqPort := none, connOpen := false
    snapValid := if s.fail then s.snapValid else true
    seqPc := .idle } := by
  by_cases hf : s.fail = true
  · rw [State.respondClose_of_fail hf, if_pos hf]; rfl
  · rw [State.respondClose_of_ok (by simpa using hf), if_neg hf]; rfl

/-- Settles O33: OPEN and row 0 are the row of step 0, whose answer is tested once. -/
theorem openAcquiresTheConnection : Obligations.OpenAcquiresTheConnection := by
  intro i s hi hpc
  have hrow : RunsRow i 0 := by
    rcases hi with rfl | rfl
    · exact runsRow_openBus
    · exact runsRow_uromInstr 0
  refine ⟨hrow.exec_request s.rowRequest_openBus hpc, fun r hw hin => ?_⟩
  rw [hrow.exec_respond hpc hw hin, s.respond_openBus]
  unfold State.respondOpen
  split <;> rfl

/-- Settles O34: RD and the register's row are the row of its step; the outcome is tested before the length (R228). -/
theorem rdStoresWhatTheDeviceAnswers : Obligations.RdStoresWhatTheDeviceAnswers := by
  intro d i s hi hpc
  have hrow : RunsRow i (captureStep d) := by
    rcases hi with rfl | rfl
    · exact runsRow_rd d
    · exact runsRow_uromInstr _
  refine ⟨hrow.exec_request (s.rowRequest_rd d) hpc, fun r hw hin => ?_⟩
  rw [hrow.exec_respond hpc hw hin, s.respond_rd d]
  unfold State.respondRd
  simp only [State.seqAbort_of_ne _ (captureStep_ne_zero d), State.goto_writeCapture_eq]
  cases r.ok with
  | false => rfl
  | true =>
    by_cases hlen : r.len ≠ captureLen d
    · simp only [if_pos hlen]; rfl
    · simp only [if_neg hlen]; rfl

/-- Settles O35: WR_PAGE and the rail's row are the row of its step, whose answer is tested once. -/
theorem wrPageSelectsTheRail : Obligations.WrPageSelectsTheRail := by
  intro r i s hi hpc
  have hrow : RunsRow i (wrPageStep r) := by
    rcases hi with rfl | rfl
    · exact runsRow_wrPage r
    · exact runsRow_uromInstr _
  refine ⟨hrow.exec_request (s.rowRequest_wrPage r) hpc, fun rsp hw hin => ?_⟩
  rw [hrow.exec_respond hpc hw hin, s.respond_wrPage r]
  unfold State.respondWrPage
  split
  · rw [nextPc_wrPageStep]; rfl
  · rw [State.seqAbort_of_ne _ (wrPageStep_ne_zero r)]; rfl

/-- Settles O36: CLOSE and row 23 are the row of step 23, which ignores its answer and asks for a failure alone. -/
theorem closeReleasesOnEveryPath : Obligations.CloseReleasesOnEveryPath := by
  intro i s hi hpc
  have hrow : RunsRow i 23 := by
    rcases hi with rfl | rfl
    · exact runsRow_closeBus
    · exact runsRow_uromInstr 23
  refine ⟨hrow.exec_request s.rowRequest_closeBus hpc, fun r hw hin => ?_⟩
  rw [hrow.exec_respond hpc hw hin, s.respond_closeBus, s.respondClose_eq]

end Sys2Proof.Machine
end

section
/-!
Where a step leaves `seq_pc`, what is known of the device's page, and the outcome of a poll (R172, R178, R183).
-/

namespace Sys2Proof.Machine

/-! ## Where control goes (R178) -/

theorem nextPc_close : nextPc 23 = .idle := rfl

/-- Control goes on exactly where the answer lets the step succeed, and a step that fails is not the CLOSE. -/
theorem Answer.seqPc {s u : State} {rsp : Response} {k : Fin 24} (ha : Answer s rsp k u) :
    (succeeds k rsp = true ∧ u.seqPc = nextPc k) ∨
      (succeeds k rsp = false ∧ u.seqPc = abortPc k ∧ k.val + 1 < 24) := by
  cases ha with
  | opened hok => exact .inl ⟨hok, rfl⟩
  | read _ hok => exact .inl ⟨hok, rfl⟩
  | paged _ hok => exact .inl ⟨hok, rfl⟩
  | closed => exact .inl ⟨rfl, by rw [s.respondClose_eq, nextPc_close]⟩
  | failed _ _ hbad hfits _ => exact .inr ⟨hbad, rfl, lt_of_abortFits hfits⟩

/-- Settles O48, move by move: an answer goes on or aborts, a start begins, reset rests, and no other move goes. -/
theorem seqPcChangesInSixWays : Obligations.SeqPcChangesInSixWays := by
  intro s t h hst hne
  cases h.move hst with
  | sampled _ _ => exact absurd rfl hne
  | rested _ => exact absurd rfl hne
  | issued _ _ _ => exact absurd rfl hne
  | started a b hin hpc => exact .inl ⟨hpc, rfl, a, b, hin⟩
  | reset hin => exact .inr (.inr (.inr (.inr (.inr ⟨rfl, hin⟩))))
  | answered k rsp u hpc hw hin hu =>
    rcases hu.seqPc with ⟨hok, hgo⟩ | ⟨hbad, hgo, hk⟩
    · by_cases hk : k.val + 1 < 24
      · exact .inr (.inl ⟨k, ⟨k.val + 1, hk⟩, rsp, hpc, by omega, rfl, hgo.trans (nextPc_of_lt k hk), hw, hin, hok⟩)
      · obtain rfl : k = 23 := by omega
        exact .inr (.inr (.inl ⟨rsp, hpc, hgo, hw, hin⟩))
    · by_cases h0 : k = 0
      · subst h0
        exact .inr (.inr (.inr (.inr (.inl ⟨rsp, hpc, hgo, hw, hin, hbad⟩))))
      · have hclose := hgo.trans (abortPc_of_ne h0)
        exact .inr (.inr (.inr (.inl ⟨k, rsp, hpc, by omega, by omega, hclose, hw, hin, hbad⟩)))

/-! ## The device's page (R183, R252, R257) -/

/-- A failure in the direction of a write is a page write's (Table 60-1). -/
theorem of_abortFits_write {kind : FailKind} {k : Fin 24} (h : abortFits kind k true = true) :
    kind = .transportIO ∧ ∃ r, wrPageStep r = k := by
  cases kind with
  | transportIO => exact ⟨rfl, (microprogram_uop_wrPage k).1 (by simpa [abortFits] using h)⟩
  | transportOpen | decodeFailure => simp [abortFits] at h

/-- The answer to a page write alone says something of the page. -/
theorem Answer.devPage {s u : State} {rsp : Response} {k : Fin 24} (ha : Answer s rsp k u) :
    u.devPage = s.devPage ∨
      ∃ r, k = wrPageStep r ∧ u.devPage = if rsp.ok then some (pageIdx r) else none := by
  cases ha with
  | opened _ => exact .inl rfl
  | read _ _ => exact .inl rfl
  | paged r hok =>
    rw [succeeds_wrPage] at hok
    exact .inr ⟨r, rfl, by simp [hok]⟩
  | closed => exact .inl (by rw [s.respondClose_eq])
  | failed kind rw _ hfits hkind =>
    cases rw with
    | false => exact .inl rfl
    | true =>
      obtain ⟨rfl, r, rfl⟩ := of_abortFits_write hfits
      have hbad : rsp.ok ≠ true := fun hok => FailKind.noConfusion (hkind.2 hok)
      exact .inr ⟨r, rfl, by simp [hbad]⟩

theorem State.pageAfterReset_cases (s : State) : s.pageAfterReset = s.devPage ∨
    (s.pageAfterReset = none ∧ ∃ q, s.reqPort = some q ∧ q.kind = .writeReq) := by
  unfold State.pageAfterReset
  cases hq : s.reqPort with
  | none => exact .inl rfl
  | some q =>
    by_cases hk : q.kind = .writeReq
    · exact .inr ⟨if_pos hk, q, rfl, hk⟩
    · exact .inl (if_neg hk)

/-- Settles O50: the reads of a rail are the steps of its `page_state`, whose page the invariant gives; and move by
move, what changes the page. -/
theorem pagedReadsFollowTheirPageWrite : Obligations.PagedReadsFollowTheirPageWrite := by
  refine ⟨fun s k r q h hpc _ _ hlo hhi => ?read, fun s t h hst hne => ?change⟩
  case read =>
    have hsel : s.pageState = .selected r :=
      (s.pageState_eq_selected k hpc r).2 ((railOfStep_eq_some k r).2 (by omega))
    exact ⟨h.page r hsel, hsel⟩
  case change =>
    cases h.move hst with
    | sampled _ _ => exact absurd rfl hne
    | rested _ => exact absurd rfl hne
    | issued _ _ _ => exact absurd rfl hne
    | started a b hin hpc => exact .inr (.inl ⟨a, b, hpc, hin, rfl⟩)
    | reset hin =>
      rcases s.pageAfterReset_cases with hsame | ⟨hnone, hwrite⟩
      · exact absurd hsame hne
      · exact .inr (.inr ⟨hin, hnone, hwrite⟩)
    | answered k rsp u hpc hw hin hu =>
      rcases hu.devPage with hsame | ⟨r, rfl, hpage⟩
      · exact absurd hsame hne
      · exact .inl ⟨r, rsp, hpc, hw, hin, hpage⟩

/-! ## The outcome of a poll (R172, R185) -/

/-- An answer that ends the poll is the CLOSE's or that of a failed OPEN: the snapshot is readable unless the poll
failed. -/
theorem Answer.outcome {s u : State} {rsp : Response} {k : Fin 24} (ha : Answer s rsp k u)
    (hs : s.snapValid = false) (hidle : u.seqPc = .idle) : u.snapValid = !u.fail := by
  cases ha with
  | opened _ => cases hidle
  | read d _ => simp [nextPc_captureStep] at hidle
  | paged r _ => simp [nextPc_wrPageStep] at hidle
  | closed => rw [s.respondClose_eq]; cases hf : s.fail <;> simp [hs]
  | failed _ _ _ _ _ => exact hs

theorem State.busy_eq_true {s : State} : s.busy = true ↔ s.seqPc ≠ .idle := decide_eq_true_iff

theorem State.busy_eq_false {s : State} : s.busy = false ↔ s.seqPc = .idle := by
  simp [State.busy]

theorem State.Inv.snapValid_of_busy {s : State} (h : s.Inv) (hb : s.busy = true) : s.snapValid = false := by
  cases hpc : s.seqPc with
  | idle => exact absurd hpc (State.busy_eq_true.1 hb)
  | step k => exact h.snapValid_eq_false hpc

/-- Settles O55: only an answer ends a poll without reset; what it leaves is at rest by the invariant. -/
theorem pollsEndWithOneOutcome : Obligations.PollsEndWithOneOutcome := by
  refine ⟨fun s t h hst hs ht hreset => ?ends, fun s h hs => h.snapValid_of_busy hs⟩
  have hbusy := State.busy_eq_true.1 hs
  have hidle := State.busy_eq_false.1 ht
  obtain ⟨hw, hconn⟩ := (h.of_move (h.move hst)).idle_rest hidle
  refine ⟨hconn, hw, ?_⟩
  cases h.move hst with
  | sampled _ _ => exact absurd hidle hbusy
  | rested _ => exact absurd hidle hbusy
  | issued _ _ _ => exact absurd hidle hbusy
  | started _ _ _ hpc => exact absurd hpc hbusy
  | reset hin => exact absurd hin hreset
  | answered _ _ u _ _ _ hu => exact hu.outcome (h.snapValid_of_busy hs) hidle

end Sys2Proof.Machine
end

section
/-!
Polls under given responses: what a response does to a poll at step `k`, that an answered poll ends, and the requests
and the end of a poll that succeeds and of one that fails (R178, R184, R185).
-/

namespace Sys2Proof.Machine

/-! ## One request and its answer -/

/-- The state after the request of step `k` has been issued, where it was not yet, and answered with `rsp`. -/
def State.served (s : State) (k : Fin 24) (rsp : Response) : State :=
  (s.respond k (microprogram k) rsp).endTurn

theorem State.Inv.served {s : State} (h : s.Inv) {k : Fin 24} (hpc : s.seqPc = .step k) (rsp : Response) :
    (s.served k rsp).Inv := (h.answer hpc (s.respond_answer k rsp)).endTurn

theorem react_of_step {s : State} {k : Fin 24} (hpc : s.seqPc = .step k) {x : Input}
    (hx : x = .quiet ∨ ∃ r, x = .response r) :
    react s x = .next ((s.present x).transition k (microprogram k)).endTurn := by
  have hin : (s.present x).input = some .quiet ∨ ∃ r, (s.present x).input = some (.response r) := by
    simpa using hx
  have hturn : sequencerTurn (s.present x) = .next ((s.present x).transition k (microprogram k)) := by
    simp [sequencerTurn_eq, hpc]
  rw [react, step_of_sequencerTurn hin, hturn]; rfl

theorem react_of_idle {s : State} (hpc : s.seqPc = .idle) {x : Input} (hx : x = .quiet ∨ ∃ r, x = .response r) :
    react s x = .next s.endTurn := by
  have hin : (s.present x).input = some .quiet ∨ ∃ r, (s.present x).input = some (.response r) := by
    simpa using hx
  rw [react, step_of_sequencerTurn hin, sequencerTurn_of_idle (s := s.present x) hpc]; rfl

/-- Issuing the outstanding request again would change nothing. -/
theorem State.Inv.issue_eq_self {s : State} (h : s.Inv) {k : Fin 24} (hpc : s.seqPc = .step k)
    (hw : s.waiting = true) : s.issue (microprogram k) = s := by
  have hreq : s.reqPort = some (s.rowRequest (microprogram k)) := by simpa [hpc, hw] using h.request
  rw [State.issue, ← hreq, ← hw]

/-- After a quiet turn the request of the step is outstanding. -/
theorem State.Inv.react_quiet {s : State} (h : s.Inv) {k : Fin 24} (hpc : s.seqPc = .step k) :
    react s .quiet = .next (s.issue (microprogram k)).endTurn := by
  rw [react_of_step hpc (.inl rfl)]
  cases hw : s.waiting with
  | false => rw [(s.present .quiet).transition_issue k _ hw]; rfl
  | true => rw [(s.present .quiet).transition_wait k _ hw rfl, h.issue_eq_self hpc hw]; rfl

/-- The response half reads neither the request port nor what is presented, and the end of the turn clears both. -/
theorem State.endTurn_respond_port (s : State) (w : Bool) (q : Option Request) (x : Option Input) (k : Fin 24)
    (r : Row) (rsp : Response) :
    (({ s with waiting := w, reqPort := q, input := x } : State).respond k r rsp).endTurn =
      (s.respond k r rsp).endTurn := by
  unfold State.respond
  split
  · unfold State.respondOpen; split <;> rfl
  · unfold State.respondRd; split_ifs <;> rfl
  · unfold State.respondWrPage; split <;> rfl
  · rw [State.respondClose_eq, State.respondClose_eq]; rfl

theorem react_response {s : State} {k : Fin 24} (hpc : s.seqPc = .step k) (rsp : Response) :
    react (s.issue (microprogram k)).endTurn (.response rsp) = .next (s.served k rsp) := by
  rw [react_of_step (s := (s.issue (microprogram k)).endTurn) hpc (.inr ⟨rsp, rfl⟩),
    State.transition_respond _ k _ rsp rfl rfl]
  exact congrArg Host.Outcome.next (s.endTurn_respond_port ..)

theorem runInputs_cons {s t : State} {x : Input} (hx : react s x = .next t) (xs : List Input) :
    runInputs s (x :: xs) = runInputs t xs := by
  rw [runInputs, hx]

theorem requestsOf_cons {s t : State} {x : Input} (hx : react s x = .next t) (xs : List Input) :
    requestsOf s (x :: xs) = (if s.reqPort = none then t.reqPort.toList else []) ++ requestsOf t xs := by
  rw [requestsOf, hx]

theorem answered_cons (rsp : Response) (rs : List Response) :
    answered (rsp :: rs) = .quiet :: .response rsp :: answered rs := rfl

theorem State.Inv.runInputs_answered {s : State} (h : s.Inv) {k : Fin 24} (hpc : s.seqPc = .step k)
    (rsp : Response) (rs : List Response) :
    runInputs s (answered (rsp :: rs)) = runInputs (s.served k rsp) (answered rs) := by
  rw [answered_cons, runInputs_cons (h.react_quiet hpc), runInputs_cons (react_response hpc rsp)]

/-- With nothing outstanding the step makes one request, its row's. -/
theorem State.Inv.requestsOf_answered {s : State} (h : s.Inv) {k : Fin 24} (hpc : s.seqPc = .step k)
    (hw : s.waiting = false) (rsp : Response) (rs : List Response) :
    requestsOf s (answered (rsp :: rs)) =
      s.rowRequest (microprogram k) :: requestsOf (s.served k rsp) (answered rs) := by
  have hport : s.reqPort = none := by simpa [hpc, hw] using h.request
  rw [answered_cons, requestsOf_cons (h.react_quiet hpc), requestsOf_cons (react_response hpc rsp), if_pos hport]
  rfl

/-! ## An answered poll ends (R178) -/

/-- How many responses end a poll at most. -/
def SeqPc.remaining : SeqPc → Nat
  | .idle => 0
  | .step k => 24 - k.val

theorem State.served_remaining_lt (s : State) (k : Fin 24) (rsp : Response) :
    (s.served k rsp).seqPc.remaining < 24 - k.val := by
  change (s.respond k (microprogram k) rsp).seqPc.remaining < _
  rcases (s.respond_answer k rsp).seqPc with ⟨-, hgo⟩ | ⟨-, hgo, hk⟩ <;> rw [hgo]
  · unfold nextPc
    split <;> simp only [SeqPc.remaining] <;> omega
  · unfold abortPc
    split <;> simp only [SeqPc.remaining] <;> omega

theorem runInputs_answered_of_idle {s : State} (hpc : s.seqPc = .idle) (rs : List Response) :
    ∃ t, runInputs s (answered rs) = .next t ∧ t.seqPc = .idle := by
  induction rs generalizing s with
  | nil => exact ⟨s, rfl, hpc⟩
  | cons rsp rs ih =>
    rw [answered_cons, runInputs_cons (react_of_idle hpc (.inl rfl)),
      runInputs_cons (react_of_idle (s := s.endTurn) hpc (.inr ⟨rsp, rfl⟩))]
    exact ih hpc

theorem State.Inv.runInputs_answered_ends {s : State} (h : s.Inv) (rs : List Response)
    (hlen : s.seqPc.remaining ≤ rs.length) : ∃ t, runInputs s (answered rs) = .next t ∧ t.seqPc = .idle := by
  induction rs generalizing s with
  | nil =>
    cases hpc : s.seqPc with
    | idle => exact runInputs_answered_of_idle hpc []
    | step k => simp only [hpc, SeqPc.remaining, List.length_nil] at hlen; omega
  | cons rsp rs ih =>
    cases hpc : s.seqPc with
    | idle => exact runInputs_answered_of_idle hpc _
    | step k =>
      rw [h.runInputs_answered hpc]
      have hlt := s.served_remaining_lt k rsp
      simp only [hpc, SeqPc.remaining, List.length_cons] at hlen
      exact ih (h.served hpc rsp) (by omega)

/-- Settles O56: every response leaves fewer to come, and no poll needs more than 24. -/
theorem answeredPollsEnd : Obligations.AnsweredPollsEnd := by
  intro s rs h hlen
  refine h.runInputs_answered_ends rs (le_trans ?_ hlen)
  unfold SeqPc.remaining
  split <;> omega

end Sys2Proof.Machine
end

section
/-!
The trace and the end of a poll, from its start on: while the steps succeed, to the CLOSE, and from a failing step
(R184, R185, R186).
-/

namespace Sys2Proof.Machine

/-! ## A step that succeeds -/

theorem Answer.at_rest {s u : State} {rsp : Response} {k : Fin 24} (ha : Answer s rsp k u) : u.waiting = false := by
  cases ha with
  | opened _ | read _ _ | paged _ _ | failed _ _ _ _ _ => rfl
  | closed => rw [s.respondClose_eq]

theorem Answer.fail_of_succeeds {s u : State} {rsp : Response} {k : Fin 24} (ha : Answer s rsp k u)
    (hok : succeeds k rsp = true) : u.fail = s.fail := by
  cases ha with
  | opened _ | read _ _ | paged _ _ => rfl
  | closed => rw [s.respondClose_eq]
  | failed _ _ hbad _ _ => exact absurd hok (by simp [hbad])

/-- What `C[i]` holds when `rsp` are the answers to the steps (R176). -/
def storedWord (rsp : Fin 24 → Response) (i : Fin 17) : Word :=
  if captureLen i = 2 then (rsp (captureStep i)).data
  else BitVec.ofNat 16 ((rsp (captureStep i)).data.toNat % 256)

theorem State.respondRd_captures {s : State} {d : Fin 17} {rsp : Response}
    (hok : succeeds (captureStep d) rsp = true) :
    (s.respondRd (captureStep d) (captureLen d) d rsp).captures[d.val] =
      ⟨if captureLen d = 2 then rsp.data else BitVec.ofNat 16 (rsp.data.toNat % 256), true⟩ := by
  simp only [succeeds_rd, Bool.and_eq_true, decide_eq_true_eq] at hok
  simp [State.respondRd, hok, captureCut_readValue]

/-- A poll of device `a` on bus `b` at step `k` with nothing outstanding, the steps before `k` having succeeded with
the answers `rsp`. -/
structure State.DoneTo (s : State) (a : BitVec 7) (b : Nat) (rsp : Fin 24 → Response) (k : Fin 24) : Prop where
  inv : s.Inv
  pc : s.seqPc = .step k
  waiting : s.waiting = false
  fail : s.fail = false
  addr : s.devAddrQ = a
  bus : s.busIndexQ = b
  page : k = 23 → s.devPage = some 0x11
  stored : ∀ i, captureStep i < k → s.captures[i.val] = ⟨storedWord rsp i, true⟩

section Poll

variable {s : State} {a : BitVec 7} {b : Nat} {rsp : Fin 24 → Response} {k : Fin 24}

/-- The poll just started. -/
theorem State.Inv.doneTo_zero (h : s.Inv) (hpc : s.seqPc = .idle) (a : BitVec 7) (b : Nat) (rsp : Fin 24 → Response) :
    (s.seqStart a b).endTurn.DoneTo a b rsp 0 where
  inv := (h.seqStart hpc a b).endTurn
  pc := rfl
  waiting := rfl
  fail := rfl
  addr := rfl
  bus := rfl
  page := nofun
  stored := nofun

/-- The reads of the last rail leave its page selected (R186). -/
theorem State.DoneTo.page_served (h : s.DoneTo a b rsp k) (hk : k.val = 22) (r : Response) :
    (s.served k r).devPage = some 0x11 := by
  have hsel : s.pageState = .selected 4 :=
    (s.pageState_eq_selected k h.pc 4).2 ((railOfStep_eq_some k 4).2 (.inr (.inr hk)))
  rcases (s.respond_answer k r).devPage with hsame | ⟨r', rfl, -⟩
  · exact hsame.trans (h.inv.page 4 hsel)
  · simp only [wrPageStep] at hk
    omega

theorem State.DoneTo.stored_served (h : s.DoneTo a b rsp k) (hok : succeeds k (rsp k) = true) {i : Fin 17}
    (hi : captureStep i ≤ k) : (s.served k (rsp k)).captures[i.val] = ⟨storedWord rsp i, true⟩ := by
  by_cases hown : captureStep i = k
  · subst hown
    have hread := s.respond_rd i (rsp (captureStep i))
    rw [State.served, hread]
    exact State.respondRd_captures hok
  · rcases (s.respond_answer k (rsp k)).captures i with hsame | ⟨rfl, -⟩
    · exact hsame.trans (h.stored i (lt_of_le_of_ne hi hown))
    · exact absurd rfl hown

/-- A step that succeeds brings the poll to the next one. -/
theorem State.DoneTo.succ (h : s.DoneTo a b rsp k) (hk : k.val + 1 < 24) (hok : succeeds k (rsp k) = true) :
    (s.served k (rsp k)).DoneTo a b rsp ⟨k.val + 1, hk⟩ := by
  have ha := s.respond_answer k (rsp k)
  have hpc : (s.served k (rsp k)).seqPc = nextPc k := by
    rcases ha.seqPc with ⟨-, hgo⟩ | ⟨hbad, -⟩
    · exact hgo
    · exact absurd hok (by simp [hbad])
  exact {
    inv := h.inv.served h.pc _
    pc := hpc.trans (nextPc_of_lt k hk)
    waiting := ha.at_rest
    fail := (ha.fail_of_succeeds hok).trans h.fail
    addr := ha.config.1.trans h.addr
    bus := ha.config.2.trans h.bus
    page := fun h23 => h.page_served (by simpa [Fin.ext_iff] using h23) _
    stored := fun i hi => h.stored_served hok (Nat.le_of_lt_succ hi) }

/-! ## The requests of a poll (R184) -/

/-- The trace of R184 is the rows' requests in order. -/
theorem State.pollTrace_eq (s : State) :
    pollTrace s.devAddrQ s.busIndexQ = List.ofFn fun k => s.rowRequest (microprogram k) := rfl

theorem take_succ_ofFn {α : Type} {n : Nat} (f : Fin n → α) (k : Fin n) :
    (List.ofFn f).take (k.val + 1) = (List.ofFn f).take k.val ++ [f k] := by
  rw [List.take_succ_eq_append_getElem (by simp), List.getElem_ofFn]

theorem State.DoneTo.pollTrace_take_succ (h : s.DoneTo a b rsp k) :
    (pollTrace a b).take (k.val + 1) = (pollTrace a b).take k.val ++ [s.rowRequest (microprogram k)] := by
  rw [← h.addr, ← h.bus, s.pollTrace_eq, take_succ_ofFn]

theorem react_start (hpc : s.seqPc = .idle) (a : BitVec 7) (b : Nat) :
    react s (.start a b) = .next (s.seqStart a b).endTurn := by
  rw [react, step_of_some (s.present_input _), blockTurn, exec_seqStart_of_idle (s := s.present _) hpc]; rfl

/-- A start in `s` and the first `n` of the answers `rsp` make the first `n` requests of R184 and lead to `u`, from
where the poll goes on with whatever answers come. -/
def Reaches (s : State) (a : BitVec 7) (b : Nat) (rsp : Fin 24 → Response) (n : Nat) (u : State) : Prop :=
  ∀ rs : List Response,
    runInputs s (.start a b :: answered ((List.ofFn rsp).take n ++ rs)) = runInputs u (answered rs) ∧
    requestsOf s (.start a b :: answered ((List.ofFn rsp).take n ++ rs)) =
      (pollTrace a b).take n ++ requestsOf u (answered rs)

theorem State.Inv.reaches_start (h : s.Inv) (hpc : s.seqPc = .idle) :
    Reaches s a b rsp 0 (s.seqStart a b).endTurn := by
  have hport : s.reqPort = none := by simpa [hpc] using h.request
  refine fun rs => ⟨runInputs_cons (react_start hpc a b) _, ?_⟩
  rw [requestsOf_cons (react_start hpc a b), if_pos hport, State.endTurn_reqPort, State.seqStart_reqPort, hport]
  rfl

/-- The next answer, good or bad, is one more request. -/
theorem Reaches.served {u : State} (hr : Reaches s a b rsp k.val u) (hu : u.DoneTo a b rsp k) :
    Reaches s a b rsp (k.val + 1) (u.served k (rsp k)) := by
  intro rs
  obtain ⟨hend, hreq⟩ := hr (rsp k :: rs)
  rw [take_succ_ofFn, hu.pollTrace_take_succ, List.append_assoc, List.append_assoc]
  exact ⟨hend.trans (hu.inv.runInputs_answered hu.pc _ _),
    hreq.trans (congrArg _ (hu.inv.requestsOf_answered hu.pc hu.waiting _ _))⟩

/-- A start reaches the step `k` before which all steps succeed. -/
theorem State.Inv.reaches_step (h : s.Inv) (hpc : s.seqPc = .idle) (hok : ∀ j, j < k → succeeds j (rsp j) = true) :
    ∃ u : State, u.DoneTo a b rsp k ∧ Reaches s a b rsp k.val u := by
  obtain ⟨k, hk⟩ := k
  induction k with
  | zero => exact ⟨_, h.doneTo_zero hpc a b rsp, h.reaches_start hpc⟩
  | succ k ih =>
    obtain ⟨u, hu, hr⟩ := ih (by omega) fun j hj => hok j (Nat.lt_succ_of_lt hj)
    exact ⟨_, hu.succ hk (hok ⟨k, by omega⟩ (Nat.lt_succ_self k)), hr.served hu⟩

end Poll

end Sys2Proof.Machine
end

section
/-!
The ends of a poll: the CLOSE after 23 steps that succeed, and the CLOSE, or IDLE, after a step that fails (R184, R227).
-/

namespace Sys2Proof.Machine

theorem State.served_close (s : State) (rsp : Response) : s.served 23 rsp = s.respondClose.endTurn := rfl

/-- Settles O57: the start reaches the CLOSE, with every register stored and the last rail's page selected. -/
theorem successfulPollsMakeTheTrace : Obligations.SuccessfulPollsMakeTheTrace := by
  intro s a b rsp h hpc hok
  obtain ⟨u, hu, hr⟩ := h.reaches_step (k := 23) (a := a) (b := b) hpc fun j _ => hok j
  obtain ⟨hend, hreq⟩ := hr.served hu []
  have hrsp : (List.ofFn rsp).take 24 ++ [] = List.ofFn rsp := by
    rw [List.append_nil, List.take_of_length_le (by simp)]
  rw [State.served_close, State.respondClose_of_ok hu.fail] at hend
  rw [← hrsp]
  exact ⟨hreq, _, hend, rfl, rfl, hu.fail, rfl, hu.page rfl, hu.addr, hu.bus,
    fun i => hu.stored i (Nat.lt_succ_of_le (captureStep_bounds i).2)⟩

/-- A failing step aborts: its number is recorded. -/
theorem Answer.aborted {s u : State} {rsp : Response} {k : Fin 24} (ha : Answer s rsp k u)
    (hbad : succeeds k rsp = false) :
    u.fail = true ∧ u.errStep = BitVec.ofNat 5 k.val ∧ u.snapValid = s.snapValid ∧ u.seqPc = abortPc k := by
  cases ha with
  | opened hok | read _ hok | paged _ hok => exact absurd hok (by simp [hbad])
  | closed => cases hbad
  | failed _ _ _ _ _ => exact ⟨rfl, rfl, rfl, rfl⟩

/-- Settles O58: the start reaches the failing step, which ends the poll at step 0 and goes to the CLOSE from any
other. -/
theorem failedPollsMakeThePartTrace : Obligations.FailedPollsMakeThePartTrace := by
  intro s a b rsp k last h hpc hok hbad
  obtain ⟨u, hu, hr⟩ := h.reaches_step (a := a) (b := b) hpc hok
  have ha := u.respond_answer k (rsp k)
  have hv : (u.served k (rsp k)).Inv := hu.inv.served hu.pc _
  obtain ⟨hfail, hstep, hsnap, hgo⟩ := ha.aborted hbad
  have hs := hsnap.trans (hu.inv.snapValid_eq_false hu.pc)
  refine ⟨_, rfl, ?_⟩
  by_cases h0 : k = 0
  · have hidle := hgo.trans (if_pos h0)
    obtain ⟨hend, hreq⟩ := hr.served hu []
    rw [if_pos h0, if_pos h0]
    exact ⟨hreq, _, hend, hidle, (hv.idle_rest hidle).2, hfail, hs, hstep, State.snapshot_eq_none hs⟩
  · have hpc23 := hgo.trans (abortPc_of_ne h0)
    have haddr : (u.served k (rsp k)).devAddrQ = a := ha.config.1.trans hu.addr
    obtain ⟨hend, hreq⟩ := hr.served hu [last]
    rw [hv.runInputs_answered hpc23, State.served_close,
      State.respondClose_of_fail (s := u.served k (rsp k)) hfail] at hend
    rw [hv.requestsOf_answered hpc23 ha.at_rest, State.rowRequest_closeBus, haddr] at hreq
    rw [if_neg h0, if_neg h0]
    exact ⟨hreq, _, hend, rfl, rfl, hfail, hs, hstep, State.snapshot_eq_none hs⟩

end Sys2Proof.Machine
end

section
/-!
Failures: where one begins, what it records and how long it is kept (R220, R230).
-/

namespace Sys2Proof.Machine

/-! ## A failing step (Table 60-1) -/

/-- The rows of Table 60-1: the kind, the micro-operation that raises it, and the direction recorded. -/
theorem of_abortFits {kind : FailKind} {k : Fin 24} {rw : Bool} (h : abortFits kind k rw = true) :
    (kind = .transportOpen ∧ (microprogram k).uop = .openBus ∧ rw = false) ∨
    (kind = .transportIO ∧ (microprogram k).uop = .rd ∧ rw = false) ∨
    (kind = .transportIO ∧ (microprogram k).uop = .wrPage ∧ rw = true) ∨
    (kind = .decodeFailure ∧ (microprogram k).uop = .rd ∧ rw = false) := by
  cases kind <;> simpa [abortFits] using h

/-- A read that fails although the device answered has the wrong length (R176, R223). -/
theorem len_ne_of_not_succeeds {k : Fin 24} {rsp : Response} (hu : (microprogram k).uop = .rd)
    (hok : rsp.ok = true) (hbad : succeeds k rsp = false) : rsp.len ≠ (microprogram k).len := by
  simpa [succeeds, hu, hok] using hbad

/-- An abort at any step but the OPEN goes to the CLOSE (R181, R226). -/
theorem abortPc_of_uop_ne {k : Fin 24} (hu : (microprogram k).uop ≠ .openBus) : abortPc k = .step 23 :=
  abortPc_of_ne fun h0 => hu ((microprogram_uop_openBus k).2 h0)

/-- What a failing step records, and where it goes, is one of the rows of Table 60-1 (R221 to R223). -/
theorem Answer.failure_row {s u : State} {rsp : Response} {k : Fin 24} (ha : Answer s rsp k u)
    (hbad : succeeds k rsp = false) :
    ((microprogram k).uop = .openBus ∧ rsp.ok = false ∧ u.errCode = 1 ∧ u.errRw = false ∧ u.seqPc = .idle) ∨
    ((microprogram k).uop = .rd ∧ rsp.ok = false ∧ u.errCode = 2 ∧ u.errRw = false ∧ u.seqPc = .step 23) ∨
    ((microprogram k).uop = .wrPage ∧ rsp.ok = false ∧ u.errCode = 2 ∧ u.errRw = true ∧ u.seqPc = .step 23) ∨
    ((microprogram k).uop = .rd ∧ rsp.ok = true ∧ rsp.len ≠ (microprogram k).len ∧ u.errCode = 3 ∧
      u.errRw = false ∧ u.seqPc = .step 23) := by
  cases ha with
  | opened hok | read _ hok | paged _ hok => exact absurd hok (by simp [hbad])
  | closed => cases hbad
  | failed kind rw _ hfits hkind =>
    rcases of_abortFits hfits with ⟨rfl, hu, rfl⟩ | ⟨rfl, hu, rfl⟩ | ⟨rfl, hu, rfl⟩ | ⟨rfl, hu, rfl⟩
    · exact .inl ⟨hu, by simpa using hkind, rfl, rfl, if_pos ((microprogram_uop_openBus k).1 hu)⟩
    · exact .inr (.inl ⟨hu, by simpa using hkind, rfl, rfl, abortPc_of_uop_ne (by simp [hu])⟩)
    · exact .inr (.inr (.inl ⟨hu, by simpa using hkind, rfl, rfl, abortPc_of_uop_ne (by simp [hu])⟩))
    · have hok : rsp.ok = true := hkind.1 rfl
      exact .inr (.inr (.inr ⟨hu, hok, len_ne_of_not_succeeds hu hok hbad, rfl, rfl,
        abortPc_of_uop_ne (by simp [hu])⟩))

/-! ## What is recorded -/

/-- `t` has the failure state of `s`: `fail` and what `err_*` say of it (R27). -/
def State.SameFailure (s t : State) : Prop :=
  t.fail = s.fail ∧ t.errCode = s.errCode ∧ t.errStep = s.errStep ∧ t.errRw = s.errRw

theorem Answer.sameFailure_of_succeeds {s u : State} {rsp : Response} {k : Fin 24} (ha : Answer s rsp k u)
    (hok : succeeds k rsp = true) : s.SameFailure u := by
  cases ha with
  | opened _ | read _ _ | paged _ _ => exact ⟨rfl, rfl, rfl, rfl⟩
  | closed => rw [s.respondClose_eq]; exact ⟨rfl, rfl, rfl, rfl⟩
  | failed _ _ hbad _ _ => exact absurd hok (by simp [hbad])

/-- A poll that has failed has its CLOSE alone left, which does not fail (R231). -/
theorem State.Inv.succeeds_of_fail {s : State} (h : s.Inv) (hf : s.fail = true) {k : Fin 24}
    (hpc : s.seqPc = .step k) (rsp : Response) : succeeds k rsp = true := by
  by_cases hk : k.val + 1 < 24
  · simp [h.fail_eq_false hpc hk] at hf
  · obtain rfl : k = 23 := by omega
    rfl

/-- A recorded failure is kept by every step but a start taken in IDLE and reset (R230). -/
theorem State.Inv.sameFailure {s t : State} (h : s.Inv) (hst : step s = .next t) (hf : s.fail = true)
    (hstart : s.seqPc ≠ .idle ∨ ∀ a b, s.input ≠ some (.start a b)) (hreset : s.input ≠ some .reset) :
    s.SameFailure t := by
  cases h.move hst with
  | sampled _ _ | rested _ | issued _ _ _ => exact ⟨rfl, rfl, rfl, rfl⟩
  | reset hin => exact absurd hin hreset
  | started a b hin hpc => exact absurd hin (hstart.resolve_left (absurd hpc) a b)
  | answered k rsp u hpc _ _ hu => exact hu.sameFailure_of_succeeds (h.succeeds_of_fail hf hpc rsp)

/-! ## A start taken and reset -/

theorem step_of_start {s : State} {a : BitVec 7} {b : Nat} (hpc : s.seqPc = .idle)
    (hin : s.input = some (.start a b)) : step s = .next (s.seqStart a b).endTurn :=
  (step_of_some hin).trans (congrArg endTurnOf (exec_seqStart_of_idle hpc a b))

theorem step_of_reset {s : State} (hin : s.input = some .reset) : step s = .next s.resetBlock.endTurn :=
  step_of_some hin

/-- Settles O40: a failure is kept by every move but a start and reset, and a failure begins with an answer that
does not let its step succeed. -/
theorem failuresAreTable601 : Obligations.FailuresAreTable601 := by
  refine ⟨fun s t h hst hf => ⟨fun a b hpc hin => ?start, fun hin => ?reset, fun hstart hreset => ?kept⟩,
    fun s t h hst hs ht => ?begins⟩
  case start =>
    obtain rfl := Host.Outcome.next.inj ((step_of_start hpc hin).symm.trans hst)
    exact ⟨rfl, rfl, rfl, rfl, rfl⟩
  case reset =>
    obtain rfl := Host.Outcome.next.inj ((step_of_reset hin).symm.trans hst)
    exact ⟨rfl, rfl, rfl, rfl, rfl⟩
  case kept =>
    obtain ⟨hfail, herr⟩ := h.sameFailure hst hf hstart hreset
    exact ⟨hfail.trans hf, herr⟩
  case begins =>
    cases h.move hst with
    | sampled _ _ | rested _ | issued _ _ _ => simp [hs] at ht
    | reset _ | started _ _ _ _ => simp at ht
    | answered k rsp u hpc hw hin hu =>
      cases hok : succeeds k rsp with
      | true => exact absurd ((hu.fail_of_succeeds hok).trans hs) (by simpa using ht)
      | false =>
        obtain ⟨-, hstep, -, -⟩ := hu.aborted hok
        exact ⟨k, rsp, hpc, hw, hin, hstep, hu.failure_row hok⟩

end Sys2Proof.Machine
end

section
/-!
Systems of sequencers: a step of one is its own, and leaves the others as they are (R233, R238).
-/

namespace Sys2Proof.Machine

/-- Everything a step of the system at `j` can do: nothing where no sequencer is, else what that sequencer's own
step does in its place. -/
theorem System.stepAt_cases {sys sys' : System} {j : Nat} (h : sys.stepAt j = .next sys') :
    (sys.sequencers[j]? = none ∧ sys' = sys) ∨
    ∃ s t, sys.sequencers[j]? = some s ∧ step s = .next t ∧ sys' = ⟨sys.sequencers.set j t⟩ := by
  unfold System.stepAt at h
  cases hj : sys.sequencers[j]? with
  | none => exact .inl ⟨rfl, by simpa [hj] using h.symm⟩
  | some s =>
    cases hs : step s with
    | next t => exact .inr ⟨s, t, rfl, hs, by simpa [hj, hs] using h.symm⟩
    | fault r | refused r => simp [hj, hs] at h

/-- Settles O59: what a step of the system writes is the one place of the sequencer that moves. -/
theorem sequencersAreIndependent : Obligations.SequencersAreIndependent := by
  intro sys sys' j hst
  rcases System.stepAt_cases hst with ⟨hj, rfl⟩ | ⟨s, t, hj, hs, rfl⟩
  · exact ⟨rfl, fun _ _ => rfl, fun s hs => by simp [hj] at hs⟩
  · refine ⟨List.length_set, fun l hl => List.getElem?_set_ne hl.symm, fun s' hs' => ⟨t, ?own, ?placed⟩⟩
    case own =>
      obtain rfl := Option.some.inj (hj.symm.trans hs')
      exact hs
    case placed => exact List.getElem?_set_self (List.getElem?_eq_some_iff.1 hj).1

end Sys2Proof.Machine
end

section
/-!
Reset and hazards: a payload's PEC belongs to one address (R265), the function units answer in every state (R254), and
the reset input rests the block from every state (R250 to R252).
-/

namespace Sys2Proof.Machine

/-! ## A payload belongs to one address (R265) -/

theorem addrByte_injective : Function.Injective addrByte :=
  Function.LeftInverse.injective extract_addrByte

/-- The three lookups of R160 lose nothing of the address: each is injective, and so is adding a byte between them. -/
theorem pagePec_injective (cmd page : Byte) : Function.Injective (pagePec · cmd page) := by
  intro a a' h
  simp only [pagePec_eq_crcTable] at h
  have hcmd := (BitVec.xor_left_inj page).mp (crcTable_injective h)
  have haddr := (BitVec.xor_left_inj cmd).mp (crcTable_injective hcmd)
  exact addrByte_injective (crcTable_injective haddr)

/-- Settles O19: the PEC determines the address. -/
theorem payloadBelongsToOneAddress : Obligations.PayloadBelongsToOneAddress :=
  fun _ _ cmd page hne => (pagePec_injective cmd page).ne hne

/-! ## Function units (R254) -/

/-- Settles O25: the answer is the old state with the result set. -/
theorem functionUnitsNeverTouchTheSequencer : Obligations.FunctionUnitsNeverTouchTheSequencer :=
  fun i s hwf hop => exec_of_wellFormed i s hop hwf

/-! ## The reset input (R250 to R252) -/

theorem State.pageAfterReset_of_no_write {s : State} (hq : ∀ q, s.reqPort = some q → q.kind ≠ .writeReq) :
    s.pageAfterReset = s.devPage := by
  rcases s.pageAfterReset_cases with hsame | ⟨-, q, hport, hwrite⟩
  · exact hsame
  · exact absurd hwrite (hq q hport)

/-- Settles O42: the step is the reset of the block, read field by field. -/
theorem resetInputRestsFromAnyState : Obligations.ResetInputRestsFromAnyState := by
  intro s hin
  refine ⟨s.resetBlock.endTurn, step_of_reset hin, rfl, rfl, s.captureValid_resetBlock,
    rfl, rfl, rfl, rfl, rfl, rfl, rfl, State.snapshot_eq_none rfl, rfl, ?page⟩
  case page => exact State.pageAfterReset_of_no_write

end Sys2Proof.Machine
end
